-- ==== Sys2Proof/Word.lean ====
section
/-! DEFINITION. The words of the machine: a byte (the data width) and a 16-bit word (the address width),
00_scope.md R5, R6. Their helpers (bit fields, sign extension, byte order) stand in Machine/Bits.lean. -/

namespace Sys2Proof

/-- An 8-bit value: one cell of the fabric, an accumulator, DP (00_scope.md R5). -/
abbrev Byte := BitVec 8

/-- A 16-bit value: an address, PC, X, Y, U, S, the view D (00_scope.md R5). -/
abbrev Word := BitVec 16

end Sys2Proof
end

