-- ==== Sys2Proof/Machine/Bits.lean ====
section
/-! DEFINITION. The bit helpers of 00_scope.md R6: the halves of a word, concatenation, sign and zero extension. -/

namespace Sys2Proof

/-- `hi(w)` = bits 15..8 (00_scope.md R6). -/
def hi (w : Word) : Byte := w.extractLsb' 8 8

/-- `lo(w)` = bits 7..0 (00_scope.md R6). -/
def lo (w : Word) : Byte := w.extractLsb' 0 8

/-- `h || l`, `h` in the high bits (00_scope.md R6). -/
def join (h l : Byte) : Word := h ++ l

/-- `sext_16` of an 8-bit value (00_scope.md R6). -/
def sext8 (v : Byte) : Word := v.signExtend 16

/-- `sext_16` of a 5-bit value (00_scope.md R6, 30_encoding.md R100). -/
def sext5 (v : BitVec 5) : Word := v.signExtend 16

/-- `zext_16` of an 8-bit value (00_scope.md R6). -/
def zext8 (v : Byte) : Word := v.setWidth 16

end Sys2Proof
end

