-- ==== Sys2Proof/Syntax.lean ====
section
/-! DEFINITION. The instructions as syntax. One constructor of `Instr` per mnemonic of spec/opcode_table.json; the
rows of one mnemonic are its operand forms, held in the constructor's argument (log 16). No encoding bit is
dropped: the register-select bits that some indexed forms ignore are kept too (log 13). -/

namespace Sys2Proof

/-- Why the decoder rejects an instruction (60_exceptions.md R472): the opcode has no row (30_encoding.md R104), or
the postbyte names no operand (R105). -/
inductive ExcCause where
  | illegalOpcode
  | unresolvableMode
  deriving DecidableEq, Repr

/-- The register `rr` of an indexed postbyte: 00 X, 01 Y, 10 U, 11 S (30_encoding.md R97). -/
inductive IdxReg where
  | x | y | u | s
  deriving DecidableEq, Repr

/-- The submodes of an indexed postbyte with bit 7 set, with their offset bytes (30_encoding.md R97). -/
inductive Submode where
  /-- 0: `,R+` -/
  | postInc1
  /-- 1: `,R++` -/
  | postInc2
  /-- 2: `,-R` -/
  | preDec1
  /-- 3: `,--R` -/
  | preDec2
  /-- 4: `,R` -/
  | noOffset
  /-- 5: `B,R` -/
  | offB
  /-- 6: `A,R` -/
  | offA
  /-- 8: `n8,R` -/
  | off8 (n : Byte)
  /-- 9: `n16,R` -/
  | off16 (n : Word)
  /-- 11: `D,R` -/
  | offD
  /-- 12: `n8,PC` -/
  | pc8 (n : Byte)
  /-- 13: `n16,PC` -/
  | pc16 (n : Word)
  /-- 15: `[n16]` -/
  | extended (a : Word)
  deriving DecidableEq, Repr

/-- An indexed operand: form (a), the 5-bit offset, or form (b), a register, the indirect bit and a submode
(30_encoding.md R97). -/
inductive Indexed where
  | off5 (rr : IdxReg) (n : BitVec 5)
  | sub (rr : IdxReg) (ind : Bool) (m : Submode)
  deriving DecidableEq, Repr

/-- A memory operand: DIRECT, EXTENDED or INDEXED (30_encoding.md R91). -/
inductive Mem where
  | direct (d : Byte)
  | extended (a : Word)
  | indexed (ix : Indexed)
  deriving DecidableEq, Repr

/-- An 8-bit source operand: IMMEDIATE or memory (40_addressing_modes.md R120). -/
inductive Src8 where
  | imm (v : Byte)
  | mem (m : Mem)
  deriving DecidableEq, Repr

/-- A 16-bit source operand: LIMMEDIATE or memory (40_addressing_modes.md R120). -/
inductive Src16 where
  | imm (v : Word)
  | mem (m : Mem)
  deriving DecidableEq, Repr

/-- The registers a TFR or EXG postbyte names (30_encoding.md R98). -/
inductive Reg where
  | d | x | y | u | s | pc | a | b | cc | dp
  deriving DecidableEq, Repr

/-- The instructions (30_encoding.md R94..R96), family by family in the order of their rules. -/
inductive Instr where
  -- 41_load_store_transfer.md
  | lda (o : Src8) | ldb (o : Src8) | ldd (o : Src16) | ldx (o : Src16) | ldy (o : Src16) | ldu (o : Src16)
  | lds (o : Src16) | sta (m : Mem) | stb (m : Mem) | std (m : Mem) | stx (m : Mem) | sty (m : Mem)
  | stu (m : Mem) | sts (m : Mem) | leax (ix : Indexed) | leay (ix : Indexed) | leas (ix : Indexed)
  | leau (ix : Indexed) | tfr (r1 r2 : Reg) | exg (r1 r2 : Reg) | pshs (list : Byte) | puls (list : Byte)
  | pshu (list : Byte) | pulu (list : Byte)
  -- 42_arithmetic.md
  | adda (o : Src8) | addb (o : Src8) | addd (o : Src16) | adca (o : Src8) | adcb (o : Src8) | suba (o : Src8)
  | subb (o : Src8) | subd (o : Src16) | sbca (o : Src8) | sbcb (o : Src8) | cmpa (o : Src8) | cmpb (o : Src8)
  | cmpd (o : Src16) | cmpx (o : Src16) | cmpy (o : Src16) | cmpu (o : Src16) | cmps (o : Src16) | nega | negb
  | neg (m : Mem) | inca | incb | inc (m : Mem) | deca | decb | dec (m : Mem) | tsta | tstb | tst (m : Mem)
  | clra | clrb | clr (m : Mem) | mul | daa | sex | abx
  -- 43_logic_shift.md
  | anda (o : Src8) | andb (o : Src8) | ora (o : Src8) | orb (o : Src8) | eora (o : Src8) | eorb (o : Src8)
  | bita (o : Src8) | bitb (o : Src8) | coma | comb | com (m : Mem) | andcc (m : Byte) | orcc (m : Byte) | asla
  | aslb | asl (m : Mem) | asra | asrb | asr (m : Mem) | lsra | lsrb | lsr (m : Mem) | rola | rolb
  | rol (m : Mem) | rora | rorb | ror (m : Mem)
  -- 44_branch_jump.md
  | bra (off : Byte) | brn (off : Byte) | bhi (off : Byte) | bls (off : Byte) | bcc (off : Byte)
  | bcs (off : Byte) | bne (off : Byte) | beq (off : Byte) | bvc (off : Byte) | bvs (off : Byte)
  | bpl (off : Byte) | bmi (off : Byte) | bge (off : Byte) | blt (off : Byte) | bgt (off : Byte)
  | ble (off : Byte) | lbra (off : Word) | lbrn (off : Word) | lbhi (off : Word) | lbls (off : Word)
  | lbcc (off : Word) | lbcs (off : Word) | lbne (off : Word) | lbeq (off : Word) | lbvc (off : Word)
  | lbvs (off : Word) | lbpl (off : Word) | lbmi (off : Word) | lbge (off : Word) | lblt (off : Word)
  | lbgt (off : Word) | lble (off : Word) | jmp (m : Mem) | jsr (m : Mem) | bsr (off : Byte)
  | lbsr (off : Word) | rts | nop
  -- 45_system.md
  | swi | swi2 | swi3 | rti | cwai (m : Byte) | sync
  deriving DecidableEq, Repr

end Sys2Proof
end

