-- ==== Sys2Proof/WellFormed.lean ====
section
/-! DEFINITION. Which terms of the syntax are instructions of the machine. The types rule out all but the illegal
combinations of an indexed submode with the indirect bit (30_encoding.md R105): submodes 0 and 2 are never
indirect, submode 15 always is. The decoder rejects those postbytes and yields well-formed terms only. -/

namespace Sys2Proof

/-- The combination of submode and indirect bit is one 30_encoding.md R97 allows. -/
def Indexed.wf : Indexed → Bool
  | .off5 _ _ => true
  | .sub _ ind .postInc1 => !ind
  | .sub _ ind .preDec1 => !ind
  | .sub _ ind (.extended _) => ind
  | .sub _ _ .postInc2 | .sub _ _ .preDec2 | .sub _ _ .noOffset | .sub _ _ .offB | .sub _ _ .offA
  | .sub _ _ (.off8 _) | .sub _ _ (.off16 _) | .sub _ _ .offD | .sub _ _ (.pc8 _) | .sub _ _ (.pc16 _) => true

/-- A memory operand is well formed when its indexed form is. -/
def Mem.wf : Mem → Bool
  | .direct _ => true
  | .extended _ => true
  | .indexed ix => ix.wf

/-- An 8-bit source is well formed when its memory operand is. -/
def Src8.wf : Src8 → Bool
  | .imm _ => true
  | .mem m => m.wf

/-- A 16-bit source is well formed when its memory operand is. -/
def Src16.wf : Src16 → Bool
  | .imm _ => true
  | .mem m => m.wf

/-- The instruction is well formed: its operand is. Every opcode, register pair, register list, mask and branch
offset the syntax can write is legal (30_encoding.md R98, R99, R100). -/
def Instr.wf : Instr → Bool
  | .suba o | .cmpa o | .sbca o | .anda o | .bita o | .lda o | .eora o | .adca o | .ora o | .adda o | .subb o
  | .cmpb o | .sbcb o | .andb o | .bitb o | .ldb o | .eorb o | .adcb o | .orb o | .addb o => o.wf
  | .subd o | .cmpx o | .ldx o | .addd o | .ldd o | .ldu o | .cmpd o | .cmpy o | .ldy o | .lds o | .cmpu o
  | .cmps o => o.wf
  | .neg o | .com o | .lsr o | .ror o | .asr o | .asl o | .rol o | .dec o | .inc o | .tst o | .jmp o | .clr o
  | .sta o | .jsr o | .stx o | .stb o | .std o | .stu o | .sty o | .sts o => o.wf
  | .leax o | .leay o | .leas o | .leau o => o.wf
  | .nop | .sync | .lbra _ | .lbsr _ | .daa | .orcc _ | .andcc _ | .sex | .exg _ _ | .tfr _ _ | .bra _ | .brn _
  | .bhi _ | .bls _ | .bcc _ | .bcs _ | .bne _ | .beq _ | .bvc _ | .bvs _ | .bpl _ | .bmi _ | .bge _ | .blt _
  | .bgt _ | .ble _ | .pshs _ | .puls _ | .pshu _ | .pulu _ | .rts | .abx | .rti | .cwai _ | .mul | .swi
  | .nega | .coma | .lsra | .rora | .asra | .asla | .rola | .deca | .inca | .tsta | .clra | .negb | .comb
  | .lsrb | .rorb | .asrb | .aslb | .rolb | .decb | .incb | .tstb | .clrb | .bsr _ | .lbrn _ | .lbhi _
  | .lbls _ | .lbcc _ | .lbcs _ | .lbne _ | .lbeq _ | .lbvc _ | .lbvs _ | .lbpl _ | .lbmi _ | .lbge _ | .lblt _
  | .lbgt _ | .lble _ | .swi2 | .swi3 => true

end Sys2Proof
end

