-- ==== Sys2Proof/Decode.lean ====
section
/-! DEFINITION. The decoder and the encoder (30_encoding.md). The decoder is ONE tree of byte requests (`Parse`): run
on a list of bytes it is the pure decoder `decode`, run on the machine it is the fetch of Machine/Fetch.lean, which
asks for exactly the bytes of the instruction, in ascending order, and no more (R93). It rejects by name: an opcode
without a row (R104) or an illegal postbyte (R105). The encoder is written from the same tables. -/

namespace Sys2Proof

/-! ## The decoder -/

/-- A decoder in progress: it has its answer, it rejects, or it asks for the next byte of the stream. -/
inductive Parse (α : Type) where
  | done (a : α)
  | reject (c : ExcCause)
  | need (k : Byte → Parse α)

/-- One operand byte: an immediate, a mask, a register list, a direct offset or a short branch offset. -/
def parseByte (mk : Byte → Instr) : Parse Instr := .need fun v => .done (mk v)

/-- Two operand bytes, high byte first (30_encoding.md R91, R100). -/
def parseWord (mk : Word → Instr) : Parse Instr := .need fun h => .need fun l => .done (mk (join h l))

/-- The register field of an indexed postbyte: 00 X, 01 Y, 10 U, 11 S (30_encoding.md R97). -/
def idxRegOf (rr : BitVec 2) : IdxReg :=
  match rr.toNat with
  | 0 => .x
  | 1 => .y
  | 2 => .u
  | _ => .s

/-- Form (b) of an indexed postbyte: submode `low`, register `rr`, indirect bit `ind`; the illegal combinations of
30_encoding.md R105 are rejected before any offset byte is asked for. -/
def parseSubmode (mk : Indexed → Instr) (rr : IdxReg) (ind : Bool) (low : Nat) : Parse Instr :=
  match low with
  | 0x0 => if ind then .reject .unresolvableMode else .done (mk (.sub rr ind .postInc1))
  | 0x1 => .done (mk (.sub rr ind .postInc2))
  | 0x2 => if ind then .reject .unresolvableMode else .done (mk (.sub rr ind .preDec1))
  | 0x3 => .done (mk (.sub rr ind .preDec2))
  | 0x4 => .done (mk (.sub rr ind .noOffset))
  | 0x5 => .done (mk (.sub rr ind .offB))
  | 0x6 => .done (mk (.sub rr ind .offA))
  | 0x8 => parseByte fun n => mk (.sub rr ind (.off8 n))
  | 0x9 => parseWord fun n => mk (.sub rr ind (.off16 n))
  | 0xB => .done (mk (.sub rr ind .offD))
  | 0xC => parseByte fun n => mk (.sub rr ind (.pc8 n))
  | 0xD => parseWord fun n => mk (.sub rr ind (.pc16 n))
  | 0xF => if ind then parseWord fun a => mk (.sub rr ind (.extended a)) else .reject .unresolvableMode
  | _ => .reject .unresolvableMode

/-- The postbyte of an INDEXED operand and the offset bytes it calls for (30_encoding.md R97). -/
def parseIndexed (mk : Indexed → Instr) : Parse Instr :=
  .need fun pb =>
    if pb.getLsbD 7 then
      parseSubmode mk (idxRegOf (pb.extractLsb' 5 2)) (pb.getLsbD 4) (pb.extractLsb' 0 4).toNat
    else .done (mk (.off5 (idxRegOf (pb.extractLsb' 5 2)) (pb.extractLsb' 0 5)))

/-- The register of a TFR or EXG code; codes 6, 7 and 12..15 name none (30_encoding.md R98). -/
def regOf (code : BitVec 4) : Option Reg :=
  match code.toNat with
  | 0 => some .d
  | 1 => some .x
  | 2 => some .y
  | 3 => some .u
  | 4 => some .s
  | 5 => some .pc
  | 8 => some .a
  | 9 => some .b
  | 10 => some .cc
  | 11 => some .dp
  | _ => none

/-- The register pair of TFR and EXG: the high nibble is `r1`, the low nibble `r2` (30_encoding.md R98, R105). -/
def parseRegs (mk : Reg → Reg → Instr) : Parse Instr :=
  .need fun pb =>
    match regOf (pb.extractLsb' 4 4), regOf (pb.extractLsb' 0 4) with
    | some r1, some r2 => .done (mk r1 r2)
    | _, _ => .reject .unresolvableMode

/-- Page 1, opcodes 0x00..0x0F, by low nibble (30_encoding.md R94). -/
def page1Row0 (low : Nat) : Parse Instr :=
  match low with
  | 0x0 => parseByte fun d => .neg (.direct d)
  | 0x3 => parseByte fun d => .com (.direct d)
  | 0x4 => parseByte fun d => .lsr (.direct d)
  | 0x6 => parseByte fun d => .ror (.direct d)
  | 0x7 => parseByte fun d => .asr (.direct d)
  | 0x8 => parseByte fun d => .asl (.direct d)
  | 0x9 => parseByte fun d => .rol (.direct d)
  | 0xA => parseByte fun d => .dec (.direct d)
  | 0xC => parseByte fun d => .inc (.direct d)
  | 0xD => parseByte fun d => .tst (.direct d)
  | 0xE => parseByte fun d => .jmp (.direct d)
  | 0xF => parseByte fun d => .clr (.direct d)
  | _ => .reject .illegalOpcode

/-- Page 1, opcodes 0x10..0x1F, by low nibble (30_encoding.md R94). -/
def page1Row1 (low : Nat) : Parse Instr :=
  match low with
  | 0x2 => .done .nop
  | 0x3 => .done .sync
  | 0x6 => parseWord .lbra
  | 0x7 => parseWord .lbsr
  | 0x9 => .done .daa
  | 0xA => parseByte .orcc
  | 0xC => parseByte .andcc
  | 0xD => .done .sex
  | 0xE => parseRegs .exg
  | 0xF => parseRegs .tfr
  | _ => .reject .illegalOpcode

/-- Page 1, opcodes 0x20..0x2F, by low nibble (30_encoding.md R94). -/
def page1Row2 (low : Nat) : Parse Instr :=
  match low with
  | 0x0 => parseByte .bra
  | 0x1 => parseByte .brn
  | 0x2 => parseByte .bhi
  | 0x3 => parseByte .bls
  | 0x4 => parseByte .bcc
  | 0x5 => parseByte .bcs
  | 0x6 => parseByte .bne
  | 0x7 => parseByte .beq
  | 0x8 => parseByte .bvc
  | 0x9 => parseByte .bvs
  | 0xA => parseByte .bpl
  | 0xB => parseByte .bmi
  | 0xC => parseByte .bge
  | 0xD => parseByte .blt
  | 0xE => parseByte .bgt
  | 0xF => parseByte .ble
  | _ => .reject .illegalOpcode

/-- Page 1, opcodes 0x30..0x3F, by low nibble (30_encoding.md R94). -/
def page1Row3 (low : Nat) : Parse Instr :=
  match low with
  | 0x0 => parseIndexed .leax
  | 0x1 => parseIndexed .leay
  | 0x2 => parseIndexed .leas
  | 0x3 => parseIndexed .leau
  | 0x4 => parseByte .pshs
  | 0x5 => parseByte .puls
  | 0x6 => parseByte .pshu
  | 0x7 => parseByte .pulu
  | 0x9 => .done .rts
  | 0xA => .done .abx
  | 0xB => .done .rti
  | 0xC => parseByte .cwai
  | 0xD => .done .mul
  | 0xF => .done .swi
  | _ => .reject .illegalOpcode

/-- Page 1, opcodes 0x40..0x4F, by low nibble (30_encoding.md R94). -/
def page1Row4 (low : Nat) : Parse Instr :=
  match low with
  | 0x0 => .done .nega
  | 0x3 => .done .coma
  | 0x4 => .done .lsra
  | 0x6 => .done .rora
  | 0x7 => .done .asra
  | 0x8 => .done .asla
  | 0x9 => .done .rola
  | 0xA => .done .deca
  | 0xC => .done .inca
  | 0xD => .done .tsta
  | 0xF => .done .clra
  | _ => .reject .illegalOpcode

/-- Page 1, opcodes 0x50..0x5F, by low nibble (30_encoding.md R94). -/
def page1Row5 (low : Nat) : Parse Instr :=
  match low with
  | 0x0 => .done .negb
  | 0x3 => .done .comb
  | 0x4 => .done .lsrb
  | 0x6 => .done .rorb
  | 0x7 => .done .asrb
  | 0x8 => .done .aslb
  | 0x9 => .done .rolb
  | 0xA => .done .decb
  | 0xC => .done .incb
  | 0xD => .done .tstb
  | 0xF => .done .clrb
  | _ => .reject .illegalOpcode

/-- Page 1, opcodes 0x60..0x6F, by low nibble (30_encoding.md R94). -/
def page1Row6 (low : Nat) : Parse Instr :=
  match low with
  | 0x0 => parseIndexed fun ix => .neg (.indexed ix)
  | 0x3 => parseIndexed fun ix => .com (.indexed ix)
  | 0x4 => parseIndexed fun ix => .lsr (.indexed ix)
  | 0x6 => parseIndexed fun ix => .ror (.indexed ix)
  | 0x7 => parseIndexed fun ix => .asr (.indexed ix)
  | 0x8 => parseIndexed fun ix => .asl (.indexed ix)
  | 0x9 => parseIndexed fun ix => .rol (.indexed ix)
  | 0xA => parseIndexed fun ix => .dec (.indexed ix)
  | 0xC => parseIndexed fun ix => .inc (.indexed ix)
  | 0xD => parseIndexed fun ix => .tst (.indexed ix)
  | 0xE => parseIndexed fun ix => .jmp (.indexed ix)
  | 0xF => parseIndexed fun ix => .clr (.indexed ix)
  | _ => .reject .illegalOpcode

/-- Page 1, opcodes 0x70..0x7F, by low nibble (30_encoding.md R94). -/
def page1Row7 (low : Nat) : Parse Instr :=
  match low with
  | 0x0 => parseWord fun a => .neg (.extended a)
  | 0x3 => parseWord fun a => .com (.extended a)
  | 0x4 => parseWord fun a => .lsr (.extended a)
  | 0x6 => parseWord fun a => .ror (.extended a)
  | 0x7 => parseWord fun a => .asr (.extended a)
  | 0x8 => parseWord fun a => .asl (.extended a)
  | 0x9 => parseWord fun a => .rol (.extended a)
  | 0xA => parseWord fun a => .dec (.extended a)
  | 0xC => parseWord fun a => .inc (.extended a)
  | 0xD => parseWord fun a => .tst (.extended a)
  | 0xE => parseWord fun a => .jmp (.extended a)
  | 0xF => parseWord fun a => .clr (.extended a)
  | _ => .reject .illegalOpcode

/-- Page 1, opcodes 0x80..0x8F, by low nibble (30_encoding.md R94). -/
def page1Row8 (low : Nat) : Parse Instr :=
  match low with
  | 0x0 => parseByte fun v => .suba (.imm v)
  | 0x1 => parseByte fun v => .cmpa (.imm v)
  | 0x2 => parseByte fun v => .sbca (.imm v)
  | 0x3 => parseWord fun v => .subd (.imm v)
  | 0x4 => parseByte fun v => .anda (.imm v)
  | 0x5 => parseByte fun v => .bita (.imm v)
  | 0x6 => parseByte fun v => .lda (.imm v)
  | 0x8 => parseByte fun v => .eora (.imm v)
  | 0x9 => parseByte fun v => .adca (.imm v)
  | 0xA => parseByte fun v => .ora (.imm v)
  | 0xB => parseByte fun v => .adda (.imm v)
  | 0xC => parseWord fun v => .cmpx (.imm v)
  | 0xD => parseByte .bsr
  | 0xE => parseWord fun v => .ldx (.imm v)
  | _ => .reject .illegalOpcode

/-- Page 1, opcodes 0x90..0x9F, by low nibble (30_encoding.md R94). -/
def page1Row9 (low : Nat) : Parse Instr :=
  match low with
  | 0x0 => parseByte fun d => .suba (.mem (.direct d))
  | 0x1 => parseByte fun d => .cmpa (.mem (.direct d))
  | 0x2 => parseByte fun d => .sbca (.mem (.direct d))
  | 0x3 => parseByte fun d => .subd (.mem (.direct d))
  | 0x4 => parseByte fun d => .anda (.mem (.direct d))
  | 0x5 => parseByte fun d => .bita (.mem (.direct d))
  | 0x6 => parseByte fun d => .lda (.mem (.direct d))
  | 0x7 => parseByte fun d => .sta (.direct d)
  | 0x8 => parseByte fun d => .eora (.mem (.direct d))
  | 0x9 => parseByte fun d => .adca (.mem (.direct d))
  | 0xA => parseByte fun d => .ora (.mem (.direct d))
  | 0xB => parseByte fun d => .adda (.mem (.direct d))
  | 0xC => parseByte fun d => .cmpx (.mem (.direct d))
  | 0xD => parseByte fun d => .jsr (.direct d)
  | 0xE => parseByte fun d => .ldx (.mem (.direct d))
  | 0xF => parseByte fun d => .stx (.direct d)
  | _ => .reject .illegalOpcode

/-- Page 1, opcodes 0xA0..0xAF, by low nibble (30_encoding.md R94). -/
def page1RowA (low : Nat) : Parse Instr :=
  match low with
  | 0x0 => parseIndexed fun ix => .suba (.mem (.indexed ix))
  | 0x1 => parseIndexed fun ix => .cmpa (.mem (.indexed ix))
  | 0x2 => parseIndexed fun ix => .sbca (.mem (.indexed ix))
  | 0x3 => parseIndexed fun ix => .subd (.mem (.indexed ix))
  | 0x4 => parseIndexed fun ix => .anda (.mem (.indexed ix))
  | 0x5 => parseIndexed fun ix => .bita (.mem (.indexed ix))
  | 0x6 => parseIndexed fun ix => .lda (.mem (.indexed ix))
  | 0x7 => parseIndexed fun ix => .sta (.indexed ix)
  | 0x8 => parseIndexed fun ix => .eora (.mem (.indexed ix))
  | 0x9 => parseIndexed fun ix => .adca (.mem (.indexed ix))
  | 0xA => parseIndexed fun ix => .ora (.mem (.indexed ix))
  | 0xB => parseIndexed fun ix => .adda (.mem (.indexed ix))
  | 0xC => parseIndexed fun ix => .cmpx (.mem (.indexed ix))
  | 0xD => parseIndexed fun ix => .jsr (.indexed ix)
  | 0xE => parseIndexed fun ix => .ldx (.mem (.indexed ix))
  | 0xF => parseIndexed fun ix => .stx (.indexed ix)
  | _ => .reject .illegalOpcode

/-- Page 1, opcodes 0xB0..0xBF, by low nibble (30_encoding.md R94). -/
def page1RowB (low : Nat) : Parse Instr :=
  match low with
  | 0x0 => parseWord fun a => .suba (.mem (.extended a))
  | 0x1 => parseWord fun a => .cmpa (.mem (.extended a))
  | 0x2 => parseWord fun a => .sbca (.mem (.extended a))
  | 0x3 => parseWord fun a => .subd (.mem (.extended a))
  | 0x4 => parseWord fun a => .anda (.mem (.extended a))
  | 0x5 => parseWord fun a => .bita (.mem (.extended a))
  | 0x6 => parseWord fun a => .lda (.mem (.extended a))
  | 0x7 => parseWord fun a => .sta (.extended a)
  | 0x8 => parseWord fun a => .eora (.mem (.extended a))
  | 0x9 => parseWord fun a => .adca (.mem (.extended a))
  | 0xA => parseWord fun a => .ora (.mem (.extended a))
  | 0xB => parseWord fun a => .adda (.mem (.extended a))
  | 0xC => parseWord fun a => .cmpx (.mem (.extended a))
  | 0xD => parseWord fun a => .jsr (.extended a)
  | 0xE => parseWord fun a => .ldx (.mem (.extended a))
  | 0xF => parseWord fun a => .stx (.extended a)
  | _ => .reject .illegalOpcode

/-- Page 1, opcodes 0xC0..0xCF, by low nibble (30_encoding.md R94). -/
def page1RowC (low : Nat) : Parse Instr :=
  match low with
  | 0x0 => parseByte fun v => .subb (.imm v)
  | 0x1 => parseByte fun v => .cmpb (.imm v)
  | 0x2 => parseByte fun v => .sbcb (.imm v)
  | 0x3 => parseWord fun v => .addd (.imm v)
  | 0x4 => parseByte fun v => .andb (.imm v)
  | 0x5 => parseByte fun v => .bitb (.imm v)
  | 0x6 => parseByte fun v => .ldb (.imm v)
  | 0x8 => parseByte fun v => .eorb (.imm v)
  | 0x9 => parseByte fun v => .adcb (.imm v)
  | 0xA => parseByte fun v => .orb (.imm v)
  | 0xB => parseByte fun v => .addb (.imm v)
  | 0xC => parseWord fun v => .ldd (.imm v)
  | 0xE => parseWord fun v => .ldu (.imm v)
  | _ => .reject .illegalOpcode

/-- Page 1, opcodes 0xD0..0xDF, by low nibble (30_encoding.md R94). -/
def page1RowD (low : Nat) : Parse Instr :=
  match low with
  | 0x0 => parseByte fun d => .subb (.mem (.direct d))
  | 0x1 => parseByte fun d => .cmpb (.mem (.direct d))
  | 0x2 => parseByte fun d => .sbcb (.mem (.direct d))
  | 0x3 => parseByte fun d => .addd (.mem (.direct d))
  | 0x4 => parseByte fun d => .andb (.mem (.direct d))
  | 0x5 => parseByte fun d => .bitb (.mem (.direct d))
  | 0x6 => parseByte fun d => .ldb (.mem (.direct d))
  | 0x7 => parseByte fun d => .stb (.direct d)
  | 0x8 => parseByte fun d => .eorb (.mem (.direct d))
  | 0x9 => parseByte fun d => .adcb (.mem (.direct d))
  | 0xA => parseByte fun d => .orb (.mem (.direct d))
  | 0xB => parseByte fun d => .addb (.mem (.direct d))
  | 0xC => parseByte fun d => .ldd (.mem (.direct d))
  | 0xD => parseByte fun d => .std (.direct d)
  | 0xE => parseByte fun d => .ldu (.mem (.direct d))
  | 0xF => parseByte fun d => .stu (.direct d)
  | _ => .reject .illegalOpcode

/-- Page 1, opcodes 0xE0..0xEF, by low nibble (30_encoding.md R94). -/
def page1RowE (low : Nat) : Parse Instr :=
  match low with
  | 0x0 => parseIndexed fun ix => .subb (.mem (.indexed ix))
  | 0x1 => parseIndexed fun ix => .cmpb (.mem (.indexed ix))
  | 0x2 => parseIndexed fun ix => .sbcb (.mem (.indexed ix))
  | 0x3 => parseIndexed fun ix => .addd (.mem (.indexed ix))
  | 0x4 => parseIndexed fun ix => .andb (.mem (.indexed ix))
  | 0x5 => parseIndexed fun ix => .bitb (.mem (.indexed ix))
  | 0x6 => parseIndexed fun ix => .ldb (.mem (.indexed ix))
  | 0x7 => parseIndexed fun ix => .stb (.indexed ix)
  | 0x8 => parseIndexed fun ix => .eorb (.mem (.indexed ix))
  | 0x9 => parseIndexed fun ix => .adcb (.mem (.indexed ix))
  | 0xA => parseIndexed fun ix => .orb (.mem (.indexed ix))
  | 0xB => parseIndexed fun ix => .addb (.mem (.indexed ix))
  | 0xC => parseIndexed fun ix => .ldd (.mem (.indexed ix))
  | 0xD => parseIndexed fun ix => .std (.indexed ix)
  | 0xE => parseIndexed fun ix => .ldu (.mem (.indexed ix))
  | 0xF => parseIndexed fun ix => .stu (.indexed ix)
  | _ => .reject .illegalOpcode

/-- Page 1, opcodes 0xF0..0xFF, by low nibble (30_encoding.md R94). -/
def page1RowF (low : Nat) : Parse Instr :=
  match low with
  | 0x0 => parseWord fun a => .subb (.mem (.extended a))
  | 0x1 => parseWord fun a => .cmpb (.mem (.extended a))
  | 0x2 => parseWord fun a => .sbcb (.mem (.extended a))
  | 0x3 => parseWord fun a => .addd (.mem (.extended a))
  | 0x4 => parseWord fun a => .andb (.mem (.extended a))
  | 0x5 => parseWord fun a => .bitb (.mem (.extended a))
  | 0x6 => parseWord fun a => .ldb (.mem (.extended a))
  | 0x7 => parseWord fun a => .stb (.extended a)
  | 0x8 => parseWord fun a => .eorb (.mem (.extended a))
  | 0x9 => parseWord fun a => .adcb (.mem (.extended a))
  | 0xA => parseWord fun a => .orb (.mem (.extended a))
  | 0xB => parseWord fun a => .addb (.mem (.extended a))
  | 0xC => parseWord fun a => .ldd (.mem (.extended a))
  | 0xD => parseWord fun a => .std (.extended a)
  | 0xE => parseWord fun a => .ldu (.mem (.extended a))
  | 0xF => parseWord fun a => .stu (.extended a)
  | _ => .reject .illegalOpcode

/-- Page 1 (no prefix): the row of the high nibble, then the low nibble (30_encoding.md R94). -/
def page1 (op : Byte) : Parse Instr :=
  match op.toNat / 16 with
  | 0x0 => page1Row0 (op.toNat % 16)
  | 0x1 => page1Row1 (op.toNat % 16)
  | 0x2 => page1Row2 (op.toNat % 16)
  | 0x3 => page1Row3 (op.toNat % 16)
  | 0x4 => page1Row4 (op.toNat % 16)
  | 0x5 => page1Row5 (op.toNat % 16)
  | 0x6 => page1Row6 (op.toNat % 16)
  | 0x7 => page1Row7 (op.toNat % 16)
  | 0x8 => page1Row8 (op.toNat % 16)
  | 0x9 => page1Row9 (op.toNat % 16)
  | 0xA => page1RowA (op.toNat % 16)
  | 0xB => page1RowB (op.toNat % 16)
  | 0xC => page1RowC (op.toNat % 16)
  | 0xD => page1RowD (op.toNat % 16)
  | 0xE => page1RowE (op.toNat % 16)
  | 0xF => page1RowF (op.toNat % 16)
  | _ => .reject .illegalOpcode

/-- Page 2 (prefix 0x10), by the byte after the prefix (30_encoding.md R95). -/
def page2 (op : Byte) : Parse Instr :=
  match op.toNat with
  | 0x21 => parseWord .lbrn
  | 0x22 => parseWord .lbhi
  | 0x23 => parseWord .lbls
  | 0x24 => parseWord .lbcc
  | 0x25 => parseWord .lbcs
  | 0x26 => parseWord .lbne
  | 0x27 => parseWord .lbeq
  | 0x28 => parseWord .lbvc
  | 0x29 => parseWord .lbvs
  | 0x2A => parseWord .lbpl
  | 0x2B => parseWord .lbmi
  | 0x2C => parseWord .lbge
  | 0x2D => parseWord .lblt
  | 0x2E => parseWord .lbgt
  | 0x2F => parseWord .lble
  | 0x3F => .done .swi2
  | 0x83 => parseWord fun v => .cmpd (.imm v)
  | 0x8C => parseWord fun v => .cmpy (.imm v)
  | 0x8E => parseWord fun v => .ldy (.imm v)
  | 0x93 => parseByte fun d => .cmpd (.mem (.direct d))
  | 0x9C => parseByte fun d => .cmpy (.mem (.direct d))
  | 0x9E => parseByte fun d => .ldy (.mem (.direct d))
  | 0x9F => parseByte fun d => .sty (.direct d)
  | 0xA3 => parseIndexed fun ix => .cmpd (.mem (.indexed ix))
  | 0xAC => parseIndexed fun ix => .cmpy (.mem (.indexed ix))
  | 0xAE => parseIndexed fun ix => .ldy (.mem (.indexed ix))
  | 0xAF => parseIndexed fun ix => .sty (.indexed ix)
  | 0xB3 => parseWord fun a => .cmpd (.mem (.extended a))
  | 0xBC => parseWord fun a => .cmpy (.mem (.extended a))
  | 0xBE => parseWord fun a => .ldy (.mem (.extended a))
  | 0xBF => parseWord fun a => .sty (.extended a)
  | 0xCE => parseWord fun v => .lds (.imm v)
  | 0xDE => parseByte fun d => .lds (.mem (.direct d))
  | 0xDF => parseByte fun d => .sts (.direct d)
  | 0xEE => parseIndexed fun ix => .lds (.mem (.indexed ix))
  | 0xEF => parseIndexed fun ix => .sts (.indexed ix)
  | 0xFE => parseWord fun a => .lds (.mem (.extended a))
  | 0xFF => parseWord fun a => .sts (.extended a)
  | _ => .reject .illegalOpcode

/-- Page 3 (prefix 0x11), by the byte after the prefix (30_encoding.md R96). -/
def page3 (op : Byte) : Parse Instr :=
  match op.toNat with
  | 0x3F => .done .swi3
  | 0x83 => parseWord fun v => .cmpu (.imm v)
  | 0x8C => parseWord fun v => .cmps (.imm v)
  | 0x93 => parseByte fun d => .cmpu (.mem (.direct d))
  | 0x9C => parseByte fun d => .cmps (.mem (.direct d))
  | 0xA3 => parseIndexed fun ix => .cmpu (.mem (.indexed ix))
  | 0xAC => parseIndexed fun ix => .cmps (.mem (.indexed ix))
  | 0xB3 => parseWord fun a => .cmpu (.mem (.extended a))
  | 0xBC => parseWord fun a => .cmps (.mem (.extended a))
  | _ => .reject .illegalOpcode

/-- One instruction: the first byte selects the page (30_encoding.md R90). -/
def parseInstr : Parse Instr :=
  .need fun b =>
    if b = 0x10 then .need page2
    else if b = 0x11 then .need page3
    else page1 b

/-- What the decoder says of a list of bytes. -/
inductive Decoded where
  /-- an instruction, and the bytes that follow it -/
  | instr (i : Instr) (rest : List Byte)
  /-- no instruction: the reason the machine takes to EXCEPTION -/
  | rejected (c : ExcCause)
  /-- the list ends inside the instruction -/
  | truncated
  deriving DecidableEq, Repr

/-- A decoder run on a list of bytes. -/
def runParse : Parse Instr → List Byte → Decoded
  | .done i, bs => .instr i bs
  | .reject c, _ => .rejected c
  | .need _, [] => .truncated
  | .need k, b :: bs => runParse (k b) bs

/-- The instruction at the head of a list of bytes. -/
def decode (bs : List Byte) : Decoded := runParse parseInstr bs

/-! ## The encoder -/

/-- The register field of an indexed postbyte (30_encoding.md R97). -/
def IdxReg.code : IdxReg → BitVec 2
  | .x => 0
  | .y => 1
  | .u => 2
  | .s => 3

/-- The code of a register in a TFR or EXG postbyte (30_encoding.md R98). -/
def Reg.code : Reg → BitVec 4
  | .d => 0
  | .x => 1
  | .y => 2
  | .u => 3
  | .s => 4
  | .pc => 5
  | .a => 8
  | .b => 9
  | .cc => 10
  | .dp => 11

/-- The submode field of an indexed postbyte (30_encoding.md R97). -/
def Submode.code : Submode → BitVec 4
  | .postInc1 => 0
  | .postInc2 => 1
  | .preDec1 => 2
  | .preDec2 => 3
  | .noOffset => 4
  | .offB => 5
  | .offA => 6
  | .off8 _ => 8
  | .off16 _ => 9
  | .offD => 11
  | .pc8 _ => 12
  | .pc16 _ => 13
  | .extended _ => 15

/-- The offset bytes that follow the postbyte (30_encoding.md R97). -/
def Submode.offsetBytes : Submode → List Byte
  | .off8 n | .pc8 n => [n]
  | .off16 n | .pc16 n => [hi n, lo n]
  | .extended a => [hi a, lo a]
  | .postInc1 | .postInc2 | .preDec1 | .preDec2 | .noOffset | .offB | .offA | .offD => []

/-- The postbyte and offset bytes of an indexed operand: `0 rr nnnnn` or `1 rr i ssss` (30_encoding.md R97). -/
def encodeIndexed : Indexed → List Byte
  | .off5 rr n => [(0#1 ++ rr.code ++ n : BitVec 8)]
  | .sub rr ind m => (1#1 ++ rr.code ++ BitVec.ofBool ind ++ m.code : BitVec 8) :: m.offsetBytes

/-- A memory operand after its opcode, one opcode for each mode (30_encoding.md R91, R94). -/
def encodeMem (dirOp idxOp extOp : Byte) : Mem → List Byte
  | .direct d => [dirOp, d]
  | .indexed ix => idxOp :: encodeIndexed ix
  | .extended a => [extOp, hi a, lo a]

/-- An 8-bit source after its opcode (30_encoding.md R91, R94). -/
def encodeSrc8 (immOp dirOp idxOp extOp : Byte) : Src8 → List Byte
  | .imm v => [immOp, v]
  | .mem m => encodeMem dirOp idxOp extOp m

/-- A 16-bit source after its opcode (30_encoding.md R91, R94). -/
def encodeSrc16 (immOp dirOp idxOp extOp : Byte) : Src16 → List Byte
  | .imm v => [immOp, hi v, lo v]
  | .mem m => encodeMem dirOp idxOp extOp m

/-- The bytes of an instruction in stream order (30_encoding.md R94..R100). -/
def encode : Instr → List Byte
  | .neg m => encodeMem 0x00 0x60 0x70 m
  | .com m => encodeMem 0x03 0x63 0x73 m
  | .lsr m => encodeMem 0x04 0x64 0x74 m
  | .ror m => encodeMem 0x06 0x66 0x76 m
  | .asr m => encodeMem 0x07 0x67 0x77 m
  | .asl m => encodeMem 0x08 0x68 0x78 m
  | .rol m => encodeMem 0x09 0x69 0x79 m
  | .dec m => encodeMem 0x0A 0x6A 0x7A m
  | .inc m => encodeMem 0x0C 0x6C 0x7C m
  | .tst m => encodeMem 0x0D 0x6D 0x7D m
  | .jmp m => encodeMem 0x0E 0x6E 0x7E m
  | .clr m => encodeMem 0x0F 0x6F 0x7F m
  | .nop => [0x12]
  | .sync => [0x13]
  | .lbra v => [0x16, hi v, lo v]
  | .lbsr v => [0x17, hi v, lo v]
  | .daa => [0x19]
  | .orcc v => [0x1A, v]
  | .andcc v => [0x1C, v]
  | .sex => [0x1D]
  | .exg r1 r2 => [0x1E, r1.code ++ r2.code]
  | .tfr r1 r2 => [0x1F, r1.code ++ r2.code]
  | .bra v => [0x20, v]
  | .brn v => [0x21, v]
  | .bhi v => [0x22, v]
  | .bls v => [0x23, v]
  | .bcc v => [0x24, v]
  | .bcs v => [0x25, v]
  | .bne v => [0x26, v]
  | .beq v => [0x27, v]
  | .bvc v => [0x28, v]
  | .bvs v => [0x29, v]
  | .bpl v => [0x2A, v]
  | .bmi v => [0x2B, v]
  | .bge v => [0x2C, v]
  | .blt v => [0x2D, v]
  | .bgt v => [0x2E, v]
  | .ble v => [0x2F, v]
  | .leax ix => 0x30 :: encodeIndexed ix
  | .leay ix => 0x31 :: encodeIndexed ix
  | .leas ix => 0x32 :: encodeIndexed ix
  | .leau ix => 0x33 :: encodeIndexed ix
  | .pshs v => [0x34, v]
  | .puls v => [0x35, v]
  | .pshu v => [0x36, v]
  | .pulu v => [0x37, v]
  | .rts => [0x39]
  | .abx => [0x3A]
  | .rti => [0x3B]
  | .cwai v => [0x3C, v]
  | .mul => [0x3D]
  | .swi => [0x3F]
  | .nega => [0x40]
  | .coma => [0x43]
  | .lsra => [0x44]
  | .rora => [0x46]
  | .asra => [0x47]
  | .asla => [0x48]
  | .rola => [0x49]
  | .deca => [0x4A]
  | .inca => [0x4C]
  | .tsta => [0x4D]
  | .clra => [0x4F]
  | .negb => [0x50]
  | .comb => [0x53]
  | .lsrb => [0x54]
  | .rorb => [0x56]
  | .asrb => [0x57]
  | .aslb => [0x58]
  | .rolb => [0x59]
  | .decb => [0x5A]
  | .incb => [0x5C]
  | .tstb => [0x5D]
  | .clrb => [0x5F]
  | .suba o => encodeSrc8 0x80 0x90 0xA0 0xB0 o
  | .cmpa o => encodeSrc8 0x81 0x91 0xA1 0xB1 o
  | .sbca o => encodeSrc8 0x82 0x92 0xA2 0xB2 o
  | .subd o => encodeSrc16 0x83 0x93 0xA3 0xB3 o
  | .anda o => encodeSrc8 0x84 0x94 0xA4 0xB4 o
  | .bita o => encodeSrc8 0x85 0x95 0xA5 0xB5 o
  | .lda o => encodeSrc8 0x86 0x96 0xA6 0xB6 o
  | .eora o => encodeSrc8 0x88 0x98 0xA8 0xB8 o
  | .adca o => encodeSrc8 0x89 0x99 0xA9 0xB9 o
  | .ora o => encodeSrc8 0x8A 0x9A 0xAA 0xBA o
  | .adda o => encodeSrc8 0x8B 0x9B 0xAB 0xBB o
  | .cmpx o => encodeSrc16 0x8C 0x9C 0xAC 0xBC o
  | .bsr v => [0x8D, v]
  | .ldx o => encodeSrc16 0x8E 0x9E 0xAE 0xBE o
  | .sta m => encodeMem 0x97 0xA7 0xB7 m
  | .jsr m => encodeMem 0x9D 0xAD 0xBD m
  | .stx m => encodeMem 0x9F 0xAF 0xBF m
  | .subb o => encodeSrc8 0xC0 0xD0 0xE0 0xF0 o
  | .cmpb o => encodeSrc8 0xC1 0xD1 0xE1 0xF1 o
  | .sbcb o => encodeSrc8 0xC2 0xD2 0xE2 0xF2 o
  | .addd o => encodeSrc16 0xC3 0xD3 0xE3 0xF3 o
  | .andb o => encodeSrc8 0xC4 0xD4 0xE4 0xF4 o
  | .bitb o => encodeSrc8 0xC5 0xD5 0xE5 0xF5 o
  | .ldb o => encodeSrc8 0xC6 0xD6 0xE6 0xF6 o
  | .eorb o => encodeSrc8 0xC8 0xD8 0xE8 0xF8 o
  | .adcb o => encodeSrc8 0xC9 0xD9 0xE9 0xF9 o
  | .orb o => encodeSrc8 0xCA 0xDA 0xEA 0xFA o
  | .addb o => encodeSrc8 0xCB 0xDB 0xEB 0xFB o
  | .ldd o => encodeSrc16 0xCC 0xDC 0xEC 0xFC o
  | .ldu o => encodeSrc16 0xCE 0xDE 0xEE 0xFE o
  | .stb m => encodeMem 0xD7 0xE7 0xF7 m
  | .std m => encodeMem 0xDD 0xED 0xFD m
  | .stu m => encodeMem 0xDF 0xEF 0xFF m
  | .lbrn v => 0x10 :: [0x21, hi v, lo v]
  | .lbhi v => 0x10 :: [0x22, hi v, lo v]
  | .lbls v => 0x10 :: [0x23, hi v, lo v]
  | .lbcc v => 0x10 :: [0x24, hi v, lo v]
  | .lbcs v => 0x10 :: [0x25, hi v, lo v]
  | .lbne v => 0x10 :: [0x26, hi v, lo v]
  | .lbeq v => 0x10 :: [0x27, hi v, lo v]
  | .lbvc v => 0x10 :: [0x28, hi v, lo v]
  | .lbvs v => 0x10 :: [0x29, hi v, lo v]
  | .lbpl v => 0x10 :: [0x2A, hi v, lo v]
  | .lbmi v => 0x10 :: [0x2B, hi v, lo v]
  | .lbge v => 0x10 :: [0x2C, hi v, lo v]
  | .lblt v => 0x10 :: [0x2D, hi v, lo v]
  | .lbgt v => 0x10 :: [0x2E, hi v, lo v]
  | .lble v => 0x10 :: [0x2F, hi v, lo v]
  | .swi2 => 0x10 :: [0x3F]
  | .cmpd o => 0x10 :: encodeSrc16 0x83 0x93 0xA3 0xB3 o
  | .cmpy o => 0x10 :: encodeSrc16 0x8C 0x9C 0xAC 0xBC o
  | .ldy o => 0x10 :: encodeSrc16 0x8E 0x9E 0xAE 0xBE o
  | .sty m => 0x10 :: encodeMem 0x9F 0xAF 0xBF m
  | .lds o => 0x10 :: encodeSrc16 0xCE 0xDE 0xEE 0xFE o
  | .sts m => 0x10 :: encodeMem 0xDF 0xEF 0xFF m
  | .swi3 => 0x11 :: [0x3F]
  | .cmpu o => 0x11 :: encodeSrc16 0x83 0x93 0xA3 0xB3 o
  | .cmps o => 0x11 :: encodeSrc16 0x8C 0x9C 0xAC 0xBC o

/-! ## The table's words -/

/-- The byte count the opcode table gives the row of a page-2 or page-3 opcode (30_encoding.md R95, R96). -/
def prefixedBytes (pre op : Nat) : Option Nat :=
  if pre = 0x10 then
    if op = 0x3F then some 2
    else if 0x21 ≤ op ∧ op ≤ 0x2F then some 4
    else if op ∈ [0x83, 0x8C, 0x8E, 0xCE, 0xB3, 0xBC, 0xBE, 0xBF, 0xFE, 0xFF] then some 4
    else if op ∈ [0x93, 0x9C, 0x9E, 0x9F, 0xDE, 0xDF, 0xA3, 0xAC, 0xAE, 0xAF, 0xEE, 0xEF] then some 3
    else none
  else if pre = 0x11 then
    if op = 0x3F then some 2
    else if op ∈ [0x83, 0x8C, 0xB3, 0xBC] then some 4
    else if op ∈ [0x93, 0x9C, 0xA3, 0xAC] then some 3
    else none
  else none

/-- The bytes of a word whose bits are numbered as spec/opcode_table.json numbers them, zeros above, five bytes in
all (the longest instruction, 30_encoding.md R92). Bits 7..0 are the first byte and every later byte counts on from
there, but a page-2 or page-3 row's two opcode bytes stand in the table as ONE big-endian number in bits 15..0
(R102: `match` "0x1021"), so there bits 15..8 are the first byte. The row's byte count tells the two apart (log 14). -/
def tableBytes (nbits w : Nat) : List Byte :=
  let b0 := w % 256
  let b1 := w / 256 % 256
  let rest := [BitVec.ofNat 8 (w / 256 ^ 2), BitVec.ofNat 8 (w / 256 ^ 3), BitVec.ofNat 8 (w / 256 ^ 4)]
  match prefixedBytes b1 b0 with
  | some n =>
    if nbits = 8 * n then BitVec.ofNat 8 b1 :: BitVec.ofNat 8 b0 :: rest
    else BitVec.ofNat 8 b0 :: BitVec.ofNat 8 b1 :: rest
  | none => BitVec.ofNat 8 b0 :: BitVec.ofNat 8 b1 :: rest

/-- The instruction the decoder reads from an instruction whose bits are `w`, numbered as spec/opcode_table.json
numbers them; every bit above `nbits` is taken as 0. -/
def decodeTableWord (nbits w : Nat) : Option Instr :=
  match decode (tableBytes nbits (w % 2 ^ nbits)) with
  | .instr i _ => some i
  | .rejected _ => none
  | .truncated => none

end Sys2Proof
end

