-- ==== Sys2Proof/Config.lean ====
section
/-! DEFINITION. What is fixed for the machine and what the spec leaves open: the free values, the OPEN parameters
of 00_scope.md R5, the two switches of 92_eei_decisions.md, and the names of the video modes. An `opaque`
constant has no body: nothing in Lean can compute it, so a theorem about it holds whatever it is. -/

namespace Sys2Proof

/-- The composed video modes (47_dev_vdg.md R374): the fifteen named members, DMA and UNDEFINED.
`semiGraphics4` and `semiGraphics6` are never composed; they are properties of single cells. -/
inductive VideoMode where
  | alphaInternal | alphaExternal
  | semiGraphics4 | semiGraphics6 | semiGraphics8 | semiGraphics12 | semiGraphics24
  | graphics1C | graphics1R | graphics2C | graphics2R | graphics3C | graphics3R | graphics6C | graphics6R
  | dma | undefinedMode
  deriving DecidableEq, Repr

/-- An index into the sixteen-entry host palette (47_dev_vdg.md R380). -/
abbrev PaletteIndex := Fin 16

/-- The colours of the host palette, by the names of 47_dev_vdg.md R380. -/
inductive PaletteColour where
  | black | blue | green | cyan | red | magenta | brown | gray
  | darkGray | lightBlue | lightGreen | lightCyan | lightRed | lightMagenta | yellow | white
  deriving DecidableEq, Repr

namespace Config

/-- Free bit number `n`: an `anybit` of the spec (93_implementation_defined.md U1), or the answer of a host input
for which the state holds none (log 4, log 9). -/
opaque freeBit : Nat → Bool

/-- Free byte number `n`: the `any8` a read of the SAM control window returns (93_implementation_defined.md U4). -/
opaque freeByte : Nat → Byte

/-- Free word number `n`: the result of an EXG or TFR of mixed sizes (93_implementation_defined.md U2). -/
opaque freeWord : Nat → Word

/-- Free count number `n`: how far PC has come in a faulting instruction (93_implementation_defined.md U7);
its user reduces it to the span the spec allows. -/
opaque freeCount : Nat → Nat

/-- OPEN parameter `KEYMAP` (48_dev_pia0.md R408) for the scan codes whose entry the spec does not give. -/
opaque keymapEntry : Nat → Fin 7 × Byte

/-- OPEN parameter `FONT` (47_dev_vdg.md R382): whether the dot at a column and row of a glyph's cell, 8 wide and 12
high (R378), is lit. -/
opaque font : BitVec 6 → Fin 8 → Fin 12 → Bool

/-- OPEN parameter `SG4_BITMAP` (47_dev_vdg.md R382): the dots of a block pattern. -/
opaque sg4Bitmap : BitVec 4 → Fin 8 → Fin 12 → Bool

/-- OPEN parameter `SG6_BITMAP` (47_dev_vdg.md R382); no rule's cell decode selects it (R378). -/
opaque sg6Bitmap : BitVec 6 → Fin 8 → Fin 12 → Bool

/-- OPEN parameter `TEXT_COLORS` (47_dev_vdg.md R382): foreground and background for a value of CSS. -/
opaque textColors : Bool → PaletteIndex × PaletteIndex

/-- OPEN parameter `SG_COLORS` (47_dev_vdg.md R382). -/
opaque sgColors : BitVec 3 → PaletteIndex

/-- OPEN parameter `GFX_PALETTE` of a C mode (47_dev_vdg.md R379, R382): its list of eight colours. -/
opaque gfxColours : VideoMode → Fin 8 → PaletteIndex

/-- OPEN parameter `GFX_PALETTE` of an R mode (47_dev_vdg.md R379, R382): the pair a CSS selects, background for a 0
pixel and foreground for a 1. -/
opaque gfxPairs : VideoMode → Bool → Bool → PaletteIndex

/-- OPEN parameter `FB_RES` (47_dev_vdg.md R383): the framebuffer's width and height for a mode. -/
opaque fbRes : VideoMode → Nat × Nat

/-- How a picture fills a framebuffer whose width or height is no multiple of its own, which the spec does not say
(47_dev_vdg.md R383): for the picture and the framebuffer's width and height, the colour at a column and row
(log 30). -/
opaque resampled : (Nat → Nat → PaletteIndex) → Nat → Nat → Nat → Nat → PaletteIndex

/-- OPEN parameter `RENDER_SG` (47_dev_vdg.md R384): the picture of SEMI_GRAPHICS_8, 12 and 24 for a CSS, a display
base and the cells, as the colour at a column and row of a framebuffer of a width and height; `none` where it declares
the mode unsupported. -/
opaque renderSg : VideoMode → Bool → Word → List Host.Cell → Option (Nat → Nat → Nat → Nat → PaletteIndex)

/-- OPEN parameter `VSYNC_TICKS` less one (70_reset_and_hazards.md R524: any number of ticks from 1 on). -/
opaque vsyncTicksLessOne : Nat

/-- Whether the main loop halts when a step returns EXCEPTION, which it "may" do (70_reset_and_hazards.md R522,
log 27). -/
opaque loopHaltsOnException : Bool

/-- `CLR_MEM_READS` (92_eei_decisions.md D21): CLR on memory reads the byte before it writes 0. -/
def clrMemReads : Bool := true

/-- `CWAI_WAKE_ON_MASKED` (92_eei_decisions.md D10): a masked asserted line does not end a CWAI wait. -/
def cwaiWakeOnMasked : Bool := false

end Config
end Sys2Proof
end

