-- ==== Sys2Proof/Machine/Palette.lean ====
section
/-! DEFINITION. The host's palette (47_dev_vdg.md R380): fixed when the framebuffer is initialised. -/

namespace Sys2Proof.Machine

/-- The sixteen entries in the order of their indices 0..15 (47_dev_vdg.md R380). -/
def hostPalette : Vector PaletteColour 16 :=
  #v[.black, .blue, .green, .cyan, .red, .magenta, .brown, .gray, .darkGray, .lightBlue, .lightGreen, .lightCyan,
    .lightRed, .lightMagenta, .yellow, .white]

end Sys2Proof.Machine
end

