-- ==== Sys2Proof/Machine/State.lean ====
section
/-! DEFINITION. The state of the machine: everything the spec names (10_state.md), as plain data, with the reasons a
call can stop and the state after reset. INVENTORY.md lists every field with its rule and its reset value. -/

namespace Sys2Proof.Machine

/-- The condition codes, "kept as eight booleans internally" (10_state.md R14). -/
structure CC where
  e : Bool
  f : Bool
  h : Bool
  i : Bool
  n : Bool
  z : Bool
  v : Bool
  c : Bool
  deriving DecidableEq, Repr

/-- The CPU registers (10_state.md R10). D is no storage: it is the view of A and B (R11). -/
structure Regs where
  a : Byte
  b : Byte
  dp : Byte
  x : Word
  y : Word
  u : Word
  s : Word
  pc : Word
  cc : CC
  deriving DecidableEq, Repr

/-- The run states (10_state.md R17). -/
inductive RunState where
  | exec
  | halted
  | sync
  | reset
  | exception
  deriving DecidableEq, Repr

/-- Run state, input latches and hidden bits of the CPU (10_state.md R17..R20). -/
structure Control where
  runState : RunState
  haltIn : Bool
  resetIn : Bool
  irqIn : Bool
  firqIn : Bool
  nmiLatch : Bool
  nmiArmed : Bool
  cwaiStacked : Bool
  deriving DecidableEq, Repr

/-- Debug state (10_state.md R21); no instruction reads it. `excCause` is `none` until an exception is raised. -/
structure Debug where
  lastPc : Word
  lastBytes : Nat
  lastCycles : Nat
  excCause : Option ExcCause
  deriving DecidableEq, Repr

/-- The data bytes of the cells by address (20_memory.md R50): addresses strictly rising, below 65,536, and no entry
equal to what an unlisted address reads as (log 1). -/
abbrev Memory := List Host.Cell

/-- The VDG (10_state.md R24, 47_dev_vdg.md R370). -/
structure Vdg where
  samVideoMode : BitVec 3
  piaVideoMode : BitVec 5
  displayOffset : BitVec 7
  displayBase : Word
  mode : VideoMode
  prevMode : VideoMode
  deriving DecidableEq, Repr

/-- The row bitmaps of the keyboard matrix, a 0 bit for a pressed key (10_state.md R25). -/
structure RowCache where
  r0 : Byte
  r1 : Byte
  r2 : Byte
  r3 : Byte
  r4 : Byte
  r5 : Byte
  r6 : Byte
  deriving DecidableEq, Repr

/-- PIA0's hidden state (10_state.md R25); its four registers are the cells 0xFF00..0xFF03. -/
structure Pia0 where
  fsEnable : Bool
  rowCache : RowCache
  fkey : Nat
  rowScan : BitVec 7
  deriving DecidableEq, Repr

/-- PIA1's hidden state (10_state.md R26); its four registers are the cells 0xFF20..0xFF23. -/
structure Pia1 where
  audioMux : BitVec 2
  casOctet : Byte
  casBitsLeft : Nat
  casPhase : Nat
  casThreshold : Nat
  casOut : Bool
  casFile : Option (List Byte)
  casPos : Nat
  prevCraCa2 : BitVec 3
  deriving DecidableEq, Repr

/-- The host framebuffer (47_dev_vdg.md R380, 70_reset_and_hazards.md R511): an indexed surface with its palette. The
picture is its palette indices row by row, `none` while nothing has been painted and the contents are unspecified
(log 31). -/
structure Framebuffer where
  width : Nat
  height : Nat
  palette : Vector PaletteColour 16
  picture : Option (List PaletteIndex)
  deriving DecidableEq, Repr

/-- The host's side (10_state.md R27, 70_reset_and_hazards.md R521): what it will answer when a callback asks it,
keyboard events and input levels, oldest first; the cassette file the loader has registered (49_dev_pia1.md R440); the
framebuffer. -/
structure HostSide where
  keyEvents : List Byte
  joystkComp : List Bool
  rjoystkButton : List Bool
  mountedCas : Option (List Byte)
  fb : Framebuffer
  deriving DecidableEq, Repr

/-- The host calls the core makes as outputs: observable events, no state of the core (10_state.md R27, log 10). -/
inductive HostOutput where
  | writeDac (v : BitVec 6)
  | audioMuxSet (sel : BitVec 2)
  | fbInit (width height : Nat)
  | fbResolution (width height : Nat)
  deriving DecidableEq, Repr

/-- The state. `sam` is the SAM's sixteen bits (46_dev_sam.md R350). `draws` (how many free values have been drawn,
log 4) and `out` (output events, newest first, log 10) are the model's own. -/
structure State where
  cpu : Regs
  ctl : Control
  dbg : Debug
  mem : Memory
  sam : BitVec 16
  vdg : Vdg
  pia0 : Pia0
  pia1 : Pia1
  host : HostSide
  draws : Nat
  out : List HostOutput
  deriving DecidableEq, Repr

/-- Why a call stops. No step and no instruction of this hardware raises any of these: both belong to calls of the
host (60_exceptions.md R473). -/
inductive Fault where
  /-- Raised by the host's `render()` in a mode it cannot paint: the host loop stops (47_dev_vdg.md R385). Safe: the
  spec names this stop. -/
  | videoFault
  /-- Raised by the host's `Load`, `define_rom` and `define_io` when the span passes 0xFFFF: nothing is copied or
  defined (20_memory.md R55, R67). Safe: the spec names this failure. -/
  | addrRange
  deriving DecidableEq, Repr

/-- Why the model declines. -/
inductive Refusal where
  /-- Raised by `exec` for an instruction that has no meaning yet, by its mnemonic. Safe: the machine stops. No arm of
  this model raises it. -/
  | notModelled (mnemonic : String)
  deriving DecidableEq, Repr

/-- What a call of the machine answers. -/
abbrev Result := Host.Outcome State Fault Refusal

/-- Condition codes all 0. -/
def ccZero : CC := ⟨false, false, false, false, false, false, false, false⟩

/-- The cold start (10_state.md R16, 70_reset_and_hazards.md R511): every field at its cold value, PC at `START_ADDR`,
run state HALTED. RAM_INIT and ROM_IMAGE are OPEN in the spec; here no cell is listed (log 1, log 2). -/
def State.coldStart (startAddr : Word) : State where
  cpu := ⟨0, 0, 0, 0, 0, 0, 0, startAddr, ccZero⟩
  ctl := ⟨.halted, false, false, false, false, false, false, false⟩
  dbg := ⟨0, 0, 0, none⟩
  mem := []
  sam := 0
  vdg := ⟨0, 0, 0, 0, .alphaInternal, .undefinedMode⟩
  pia0 := ⟨false, ⟨0xFF, 0xFF, 0xFF, 0xFF, 0xFF, 0xFF, 0xFF⟩, 0, 0x7F⟩
  pia1 := ⟨0, 0, 0, 0, 20, false, none, 0, 0⟩
  host := ⟨[], [], [], none, ⟨256, 192, hostPalette, none⟩⟩
  draws := 0
  out := []

/-- The machine right after reset: the cold start, then the reset sequence of 60_exceptions.md R462, with the latch
released (70_reset_and_hazards.md R511, log 3): DP = 0, F = I = 1, NMI disarmed, PC the word at the reset vector,
which reads 0x0000 where no ROM byte is listed (log 2). -/
def State.reset : State :=
  { State.coldStart 0 with
    cpu := ⟨0, 0, 0, 0, 0, 0, 0, 0, { ccZero with f := true, i := true }⟩
    ctl := ⟨.reset, false, false, false, false, false, false, false⟩ }

end Sys2Proof.Machine
end

