-- ==== Sys2Proof/Machine/Access.lean ====
section
/-! DEFINITION. Reading and writing the pieces of the state: the cells' data in canonical form, the registers, the
condition codes as a packed byte, the free values and the host's inputs and outputs. No callback runs here. -/

namespace Sys2Proof.Machine

/-! ## Cell data -/

/-- What a cell holds that nothing has written: `RAM_INIT` and `ROM_IMAGE` of State.reset (log 1, log 2). -/
def unlisted (_a : Nat) : Byte := 0

/-- The data byte at an address. -/
def Memory.read : Memory → Nat → Byte
  | [], a => unlisted a
  | (b, w) :: m, a => if b = a then w else Memory.read m a

/-- The memory with `v` at address `a`, in canonical form again. -/
def Memory.write : Memory → Nat → Byte → Memory
  | [], a, v => if v = unlisted a then [] else [(a, v)]
  | (b, w) :: m, a, v =>
    if a < b then (if v = unlisted a then (b, w) :: m else (a, v) :: (b, w) :: m)
    else if a = b then (if v = unlisted a then m else (a, v) :: m)
    else (b, w) :: Memory.write m a v

/-- Canonical from address `least` on: addresses rising, below 65,536, no entry that an unlisted address reads as. -/
def Memory.wfFrom (least : Nat) : Memory → Bool
  | [] => true
  | (a, v) :: m => decide (least ≤ a) && decide (a < 65536) && decide (v ≠ unlisted a) && Memory.wfFrom (a + 1) m

/-- The memory is in canonical form. -/
def Memory.wf (m : Memory) : Bool := Memory.wfFrom 0 m

/-- The data byte of the cell at `a`, with no callback: `cells[a].data` (20_memory.md R52, R72). -/
def State.cell (s : State) (a : Word) : Byte := Memory.read s.mem a.toNat

/-- The state with `v` as the data byte of the cell at `a`, with no callback (20_memory.md R72). -/
def State.setCell (s : State) (a : Word) (v : Byte) : State := { s with mem := Memory.write s.mem a.toNat v }

/-! ## Condition codes -/

/-- CC packed into a byte: E F H I N Z V C from bit 7 to bit 0 (10_state.md R14). -/
def packCC (cc : CC) : Byte :=
  BitVec.ofBool cc.e ++ BitVec.ofBool cc.f ++ BitVec.ofBool cc.h ++ BitVec.ofBool cc.i ++
  BitVec.ofBool cc.n ++ BitVec.ofBool cc.z ++ BitVec.ofBool cc.v ++ BitVec.ofBool cc.c

/-- A byte unpacked into CC (10_state.md R14). -/
def unpackCC (b : Byte) : CC :=
  ⟨b.getLsbD 7, b.getLsbD 6, b.getLsbD 5, b.getLsbD 4, b.getLsbD 3, b.getLsbD 2, b.getLsbD 1, b.getLsbD 0⟩

/-! ## Registers -/

def State.setA (s : State) (v : Byte) : State := { s with cpu := { s.cpu with a := v } }
def State.setB (s : State) (v : Byte) : State := { s with cpu := { s.cpu with b := v } }
def State.setDP (s : State) (v : Byte) : State := { s with cpu := { s.cpu with dp := v } }
def State.setX (s : State) (v : Word) : State := { s with cpu := { s.cpu with x := v } }
def State.setY (s : State) (v : Word) : State := { s with cpu := { s.cpu with y := v } }
def State.setU (s : State) (v : Word) : State := { s with cpu := { s.cpu with u := v } }
def State.setS (s : State) (v : Word) : State := { s with cpu := { s.cpu with s := v } }
def State.setPC (s : State) (v : Word) : State := { s with cpu := { s.cpu with pc := v } }
def State.setCC (s : State) (v : CC) : State := { s with cpu := { s.cpu with cc := v } }

/-- D reads as `A || B` (10_state.md R11). -/
def State.d (s : State) : Word := join s.cpu.a s.cpu.b

/-- A write of D writes A with the high byte and B with the low byte (10_state.md R11). -/
def State.setD (s : State) (w : Word) : State := (s.setA (hi w)).setB (lo w)

def State.setRunState (s : State) (r : RunState) : State := { s with ctl := { s.ctl with runState := r } }
def State.setCwaiStacked (s : State) (b : Bool) : State := { s with ctl := { s.ctl with cwaiStacked := b } }

/-- `ArmNMI()` (00_scope.md R7, 10_state.md R19). -/
def State.armNmi (s : State) : State := { s with ctl := { s.ctl with nmiArmed := true } }

/-- The host call `irq(b)` (10_state.md R18). -/
def State.setIrq (s : State) (b : Bool) : State := { s with ctl := { s.ctl with irqIn := b } }

/-! ## Free values, host inputs, host outputs -/

/-- The state after one more free value has been drawn. -/
def State.drawn (s : State) : State := { s with draws := s.draws + 1 }

/-- `anybit` (00_scope.md R7). -/
def State.drawBit (s : State) : Bool × State := (Config.freeBit s.draws, s.drawn)

/-- `any8` (00_scope.md R7). -/
def State.drawByte (s : State) : Byte × State := (Config.freeByte s.draws, s.drawn)

/-- Any 16-bit value. -/
def State.drawWord (s : State) : Word × State := (Config.freeWord s.draws, s.drawn)

/-- `joystk_comp()` (48_dev_pia0.md R402): the host's next answer, free where the state holds none (log 9). -/
def joystkComp (s : State) : Bool × State :=
  match s.host.joystkComp with
  | b :: bs => (b, { s with host := { s.host with joystkComp := bs } })
  | [] => s.drawBit

/-- `rjoystk_button()`, true for pressed (48_dev_pia0.md R402): the host's next answer, free where the state holds
none (log 9). -/
def rjoystkButton (s : State) : Bool × State :=
  match s.host.rjoystkButton with
  | b :: bs => (b, { s with host := { s.host with rjoystkButton := bs } })
  | [] => s.drawBit

/-- `keyboard_read()`: the next event, 0 when none is pending (70_reset_and_hazards.md R521). -/
def keyboardRead (s : State) : Byte × State :=
  match s.host.keyEvents with
  | e :: es => (e, { s with host := { s.host with keyEvents := es } })
  | [] => (0, s)

/-- A host output event (10_state.md R27). -/
def State.emit (s : State) (o : HostOutput) : State := { s with out := o :: s.out }

end Sys2Proof.Machine
end

