-- ==== Sys2Proof/Machine/Flags.lean ====
section
/-! DEFINITION. The results and the condition codes of the arithmetic, logic and shift operations, as functions of
their operands and the old condition codes. `h` is the free half carry of 93_implementation_defined.md U1 (log 7). A
flag that a definition does not write is unchanged (00_scope.md R8). -/

namespace Sys2Proof.Machine

/-- `SetNZ8(r)` (00_scope.md R8). -/
def setNZ8 (r : Byte) (cc : CC) : CC := { cc with n := r.getLsbD 7, z := r == 0 }

/-- `SetNZ16(w)` (00_scope.md R8). -/
def setNZ16 (w : Word) (cc : CC) : CC := { cc with n := w.getLsbD 15, z := w == 0 }

/-- Loads, stores and TST: N, Z of the value, V = 0 (41_load_store_transfer.md R151, 42_arithmetic.md R219). -/
def move8 (v : Byte) (cc : CC) : CC := { setNZ8 v cc with v := false }

/-- Loads and stores of words: N, Z of the value, V = 0 (41_load_store_transfer.md R153). -/
def move16 (w : Word) (cc : CC) : CC := { setNZ16 w cc with v := false }

/-! ## Addition and subtraction -/

/-- `Add8(a, m, cin)` (42_arithmetic.md R190): a 9-bit sum; C is its bit 8. -/
def add8 (a m : Byte) (cin : Bool) (cc : CC) : Byte × CC :=
  let t : BitVec 9 := a.setWidth 9 + m.setWidth 9 + (BitVec.ofBool cin).setWidth 9
  let r : Byte := t.setWidth 8
  (r, { setNZ8 r cc with
        h := (a ^^^ m ^^^ r).getLsbD 4
        v := ((a ^^^ r) &&& (m ^^^ r)).getLsbD 7
        c := t.getLsbD 8 })

/-- `Add16(a, m)` (42_arithmetic.md R190): a 17-bit sum; H is not written. -/
def add16 (a m : Word) (cc : CC) : Word × CC :=
  let t : BitVec 17 := a.setWidth 17 + m.setWidth 17
  let r : Word := t.setWidth 16
  (r, { setNZ16 r cc with
        v := ((a ^^^ r) &&& (m ^^^ r)).getLsbD 15
        c := t.getLsbD 16 })

/-- `Sub8(a, m, bin)` (42_arithmetic.md R191): the complement addition at 9 bits; C is the borrow, H is any bit. -/
def sub8 (h : Bool) (a m : Byte) (bin : Bool) (cc : CC) : Byte × CC :=
  let t : BitVec 9 := a.setWidth 9 + (~~~m).setWidth 9 + (BitVec.ofBool (!bin)).setWidth 9
  let r : Byte := t.setWidth 8
  (r, { setNZ8 r cc with
        h := h
        v := ((a ^^^ r) &&& (~~~m ^^^ r)).getLsbD 7
        c := !t.getLsbD 8 })

/-- `Sub16(a, m)` (42_arithmetic.md R191): C is the borrow; H is not written. -/
def sub16 (a m : Word) (cc : CC) : Word × CC :=
  let r : Word := a - m
  (r, { setNZ16 r cc with
        v := ((a ^^^ m) &&& (a ^^^ r)).getLsbD 15
        c := decide (a.toNat < m.toNat) })

/-- NEG: `Sub8(0, v, 0)` (42_arithmetic.md R210). -/
def neg8 (h : Bool) (v : Byte) (cc : CC) : Byte × CC := sub8 h 0 v false cc

/-- INC: V iff the value was 0x7F; C and H unchanged (42_arithmetic.md R213). -/
def inc8 (v : Byte) (cc : CC) : Byte × CC := (v + 1, { setNZ8 (v + 1) cc with v := v == 0x7F })

/-- DEC: V iff the value was 0x80; C and H unchanged (42_arithmetic.md R216). -/
def dec8 (v : Byte) (cc : CC) : Byte × CC := (v - 1, { setNZ8 (v - 1) cc with v := v == 0x80 })

/-- CLR: N = 0, Z = 1, V = 0, C = 0 (42_arithmetic.md R222). -/
def clr8 (cc : CC) : Byte × CC := (0, { cc with n := false, z := true, v := false, c := false })

/-- MUL: the exact product; Z from all of it, C its bit 7 (42_arithmetic.md R225). -/
def mul8 (a b : Byte) (cc : CC) : Word × CC :=
  let w := zext8 a * zext8 b
  (w, { cc with z := w == 0, c := w.getLsbD 7 })

/-- The correction DAA adds (42_arithmetic.md R226). -/
def daaCorrection (a : Byte) (h c : Bool) : Byte :=
  let low := a.extractLsb' 0 4
  let high := a.extractLsb' 4 4
  (if low > 9 ∨ h = true then 0x06 else 0) +
  (if (high > 8 ∧ low > 9) ∨ high > 9 ∨ c = true then 0x60 else 0)

/-- DAA: C is the old C or the carry of the correction, V = 0 (42_arithmetic.md R226). -/
def daa8 (a : Byte) (cc : CC) : Byte × CC :=
  let t : BitVec 9 := a.setWidth 9 + (daaCorrection a cc.h cc.c).setWidth 9
  let r : Byte := t.setWidth 8
  (r, { setNZ8 r cc with v := false, c := cc.c || t.getLsbD 8 })

/-- SEX: D is B sign-extended; N, Z of D (42_arithmetic.md R227). -/
def sexWord (b : Byte) (cc : CC) : Word × CC := (sext8 b, setNZ16 (sext8 b) cc)

/-! ## Logic -/

/-- AND (43_logic_shift.md R240). -/
def and8 (a m : Byte) (cc : CC) : Byte × CC := (a &&& m, move8 (a &&& m) cc)

/-- OR (43_logic_shift.md R242). -/
def or8 (a m : Byte) (cc : CC) : Byte × CC := (a ||| m, move8 (a ||| m) cc)

/-- EOR (43_logic_shift.md R244). -/
def eor8 (a m : Byte) (cc : CC) : Byte × CC := (a ^^^ m, move8 (a ^^^ m) cc)

/-- COM: V = 0, C = 1 (43_logic_shift.md R248). -/
def com8 (v : Byte) (cc : CC) : Byte × CC := (~~~v, { move8 (~~~v) cc with c := true })

/-! ## Shifts and rotates -/

/-- ASL (43_logic_shift.md R253); H is any bit. -/
def asl8 (h : Bool) (v : Byte) (cc : CC) : Byte × CC :=
  let r := v <<< 1
  (r, { setNZ8 r cc with h := h, v := v.getLsbD 7 ^^ v.getLsbD 6, c := v.getLsbD 7 })

/-- ASR: the sign bit stays, V is unchanged (43_logic_shift.md R256); H is any bit. -/
def asr8 (h : Bool) (v : Byte) (cc : CC) : Byte × CC :=
  let r := v >>> 1 ||| (v &&& 0x80)
  (r, { setNZ8 r cc with h := h, c := v.getLsbD 0 })

/-- LSR: N = 0, V unchanged (43_logic_shift.md R259). -/
def lsr8 (v : Byte) (cc : CC) : Byte × CC :=
  let r := v >>> 1
  (r, { cc with n := false, z := r == 0, c := v.getLsbD 0 })

/-- ROL through C (43_logic_shift.md R262). -/
def rol8 (v : Byte) (cc : CC) : Byte × CC :=
  let r := v <<< 1 ||| (if cc.c then 1 else 0)
  (r, { setNZ8 r cc with v := v.getLsbD 7 ^^ v.getLsbD 6, c := v.getLsbD 7 })

/-- ROR through C; V unchanged (43_logic_shift.md R265). -/
def ror8 (v : Byte) (cc : CC) : Byte × CC :=
  let r := v >>> 1 ||| (if cc.c then 0x80 else 0)
  (r, { setNZ8 r cc with c := v.getLsbD 0 })

/-! ## Branch conditions (44_branch_jump.md R281) -/

/-- Row 2: C = 0 and Z = 0. -/
def condHI (cc : CC) : Bool := !(cc.c || cc.z)
/-- Row 3: C = 1 or Z = 1. -/
def condLS (cc : CC) : Bool := cc.c || cc.z
/-- Row 4: C = 0. -/
def condCC (cc : CC) : Bool := !cc.c
/-- Row 5: C = 1. -/
def condCS (cc : CC) : Bool := cc.c
/-- Row 6: Z = 0. -/
def condNE (cc : CC) : Bool := !cc.z
/-- Row 7: Z = 1. -/
def condEQ (cc : CC) : Bool := cc.z
/-- Row 8: V = 0. -/
def condVC (cc : CC) : Bool := !cc.v
/-- Row 9: V = 1. -/
def condVS (cc : CC) : Bool := cc.v
/-- Row 10: N = 0. -/
def condPL (cc : CC) : Bool := !cc.n
/-- Row 11: N = 1. -/
def condMI (cc : CC) : Bool := cc.n
/-- Row 12: N = V. -/
def condGE (cc : CC) : Bool := cc.n == cc.v
/-- Row 13: N ≠ V. -/
def condLT (cc : CC) : Bool := cc.n != cc.v
/-- Row 14: Z = 0 and N = V. -/
def condGT (cc : CC) : Bool := !cc.z && cc.n == cc.v
/-- Row 15: Z = 1 or N ≠ V. -/
def condLE (cc : CC) : Bool := cc.z || cc.n != cc.v

end Sys2Proof.Machine
end

