-- ==== Sys2Proof/Machine/AddressMap.lean ====
section
/-! DEFINITION. The attributes of the cells (20_memory.md R50, R54, R63): boot-time configuration that no instruction
changes (10_state.md R22, R27), built by the boot sequence's own calls (70_reset_and_hazards.md R514). -/

namespace Sys2Proof.Machine

/-- The callbacks of this hardware (20_memory.md R50). -/
inductive IoPort where
  | pia0Pa | pia0Cra | pia0Pb | pia0Crb
  | pia1Pa | pia1Cra | pia1Pb | pia1Crb
  | samCtl | samVec
  deriving DecidableEq, Repr

/-- The attribute of a cell; an IO cell has its callback (10_state.md R22). -/
inductive CellKind where
  | ram
  | rom
  | io (p : IoPort)
  deriving DecidableEq, Repr

/-- A span of addresses, both ends included, and the attribute a call gave it. -/
structure Span where
  first : Nat
  last : Nat
  kind : CellKind
  deriving DecidableEq, Repr

/-- The attribute map as the calls that made it, the latest first. -/
abbrev AttrMap := List Span

/-- The attribute of an address: the latest call that covers it, else RAM (20_memory.md R54, 10_state.md R22). -/
def attrOf : AttrMap → Nat → CellKind
  | [], _ => .ram
  | sp :: m, a => if sp.first ≤ a ∧ a ≤ sp.last then sp.kind else attrOf m a

/-- The map after boot, the table of 20_memory.md R63: what the calls of the boot sequence leave, the latest first
(70_reset_and_hazards.md R514; `bootDefines` makes these calls). -/
def bootMap : AttrMap :=
  [⟨0xFFF2, 0xFFFF, .io .samVec⟩, ⟨0xFFC0, 0xFFDF, .io .samCtl⟩, ⟨0xFF23, 0xFF23, .io .pia1Crb⟩,
    ⟨0xFF22, 0xFF22, .io .pia1Pb⟩, ⟨0xFF21, 0xFF21, .io .pia1Cra⟩, ⟨0xFF20, 0xFF20, .io .pia1Pa⟩,
    ⟨0xFF03, 0xFF03, .io .pia0Crb⟩, ⟨0xFF02, 0xFF02, .io .pia0Pb⟩, ⟨0xFF01, 0xFF01, .io .pia0Cra⟩,
    ⟨0xFF00, 0xFF00, .io .pia0Pa⟩, ⟨0x8000, 0xFEFF, .rom⟩]

/-- The attribute of the cell at an address (20_memory.md R63). -/
def cellKind (a : Word) : CellKind := attrOf bootMap a.toNat

/-- The cell is an IO cell: an access to it runs a callback (20_memory.md R52, R53). -/
def isIo (a : Word) : Bool :=
  match cellKind a with
  | .ram => false
  | .rom => false
  | .io _ => true

end Sys2Proof.Machine
end

