-- ==== Sys2Proof/Machine/Pia0.lean ====
section
/-! DEFINITION. PIA0 (48_dev_pia0.md): keyboard scan, joystick inputs, field-sync interrupt, audio-mux bit 0. Its four
registers are the cells 0xFF00..0xFF03; the fabric has stored a written byte before a callback here runs. -/

namespace Sys2Proof.Machine

/-- Set or clear one bit of the audio-mux selector and tell the host, or do nothing: the pattern logic that
48_dev_pia0.md R404 and 49_dev_pia1.md R439 share. -/
def audioMuxPattern (bit : Nat) (v : Byte) (s : State) : State :=
  let p := v.extractLsb' 3 3
  let put (mux : BitVec 2) : State := ({ s with pia1 := { s.pia1 with audioMux := mux } }).emit (.audioMuxSet mux)
  if p = 7 then put (s.pia1.audioMux ||| (1#2 <<< bit))
  else if p = 6 then put (s.pia1.audioMux &&& ~~~(1#2 <<< bit))
  else s

/-- Bit 7 of port A: the comparator level (48_dev_pia0.md R402). -/
def comparatorBit (level : Bool) : Byte := if level then 0x80 else 0x00

/-- `pia0_pa(READ)` (48_dev_pia0.md R402). -/
def pia0PaRead (s : State) : Byte × State :=
  let (level, s1) := joystkComp s
  let (pressed, s2) := rjoystkButton s1
  let v := comparatorBit level ||| s.pia0.rowScan.setWidth 8
  (if pressed then v &&& 0xFE else v, s2)

/-- `pia0_cra(WRITE)` (48_dev_pia0.md R404). -/
def pia0CraWrite (v : Byte) (s : State) : State := audioMuxPattern 0 v s

/-- `KEYMAP` (48_dev_pia0.md R408): entry 16 is given, the others are OPEN (log 20). -/
def keymap (code : Nat) : Fin 7 × Byte := if code = 16 then (4, 0x02) else Config.keymapEntry code

/-- One row of the cache. -/
def RowCache.get (c : RowCache) (r : Fin 7) : Byte :=
  match r.val with
  | 0 => c.r0
  | 1 => c.r1
  | 2 => c.r2
  | 3 => c.r3
  | 4 => c.r4
  | 5 => c.r5
  | _ => c.r6

/-- The cache with one row replaced. -/
def RowCache.set (c : RowCache) (r : Fin 7) (v : Byte) : RowCache :=
  match r.val with
  | 0 => { c with r0 := v }
  | 1 => { c with r1 := v }
  | 2 => { c with r2 := v }
  | 3 => { c with r3 := v }
  | 4 => { c with r4 := v }
  | 5 => { c with r5 := v }
  | _ => { c with r6 := v }

/-- Phase (a) of a PB write: what one keyboard event does (48_dev_pia0.md R405). Event 0 is no event. -/
def keyEvent (e : Byte) (p : Pia0) : Pia0 :=
  let code := (e &&& 0x7F).toNat
  let isBreak := e.getLsbD 7
  if e = 0 then p
  else if 59 ≤ code ∧ code ≤ 68 then (if isBreak then p else { p with fkey := code - 58 })
  else if code ≤ 80 then
    let (row, mask) := keymap code
    let old := p.rowCache.get row
    { p with rowCache := p.rowCache.set row (if isBreak then old ||| mask else old &&& ~~~mask) }
  else p

/-- The bit of one row: 1 unless a driven column has its key in this row pressed (48_dev_pia0.md R405). `n` has a 1
for each driven column. -/
def rowReads (n row : Byte) : Bool := n &&& row == n

/-- Phase (b) of a PB write: the seven row bits for the column pattern `v` (48_dev_pia0.md R405). -/
def scanRows (c : RowCache) (v : Byte) : BitVec 7 :=
  let n := ~~~v
  BitVec.ofBool (rowReads n c.r6) ++ BitVec.ofBool (rowReads n c.r5) ++ BitVec.ofBool (rowReads n c.r4) ++
  BitVec.ofBool (rowReads n c.r3) ++ BitVec.ofBool (rowReads n c.r2) ++ BitVec.ofBool (rowReads n c.r1) ++
  BitVec.ofBool (rowReads n c.r0)

/-- `pia0_pb(WRITE, v)` (48_dev_pia0.md R405): one event, the scan, and the store into the PA cell, which is made
directly. -/
def pia0PbWrite (v : Byte) (s : State) : State :=
  let (e, s1) := keyboardRead s
  let p := keyEvent e s1.pia0
  let rows := scanRows p.rowCache v
  let (level, s2) := joystkComp { s1 with pia0 := { p with rowScan := rows } }
  s2.setCell 0xFF00 (comparatorBit level ||| rows.setWidth 8)

/-- `pia0_pb(READ)` (48_dev_pia0.md R406): clears the flag in CRB bit 7, drops IRQ, returns the cell. -/
def pia0PbRead (s : State) : Byte × State :=
  (s.cell 0xFF02, (s.setCell 0xFF03 (s.cell 0xFF03 &&& 0x7F)).setIrq false)

/-- `pia0_crb(WRITE, v)` (48_dev_pia0.md R407). -/
def pia0CrbWrite (v : Byte) (s : State) : State := { s with pia0 := { s.pia0 with fsEnable := v.getLsbD 0 } }

/-- `vsync_irq()` (48_dev_pia0.md R412). -/
def vsyncIrq (s : State) : State :=
  if s.pia0.fsEnable then (s.setCell 0xFF03 (s.cell 0xFF03 ||| 0x80)).setIrq true else s

/-- `function_key()` (48_dev_pia0.md R411). -/
def functionKey (s : State) : Nat × State := (s.pia0.fkey, { s with pia0 := { s.pia0 with fkey := 0 } })

end Sys2Proof.Machine
end

