-- ==== Sys2Proof/Machine/Vdg.lean ====
section
/-! DEFINITION. The VDG (47_dev_vdg.md): its three setters, the composition of the video mode, and the picture the
host's `render()` paints, as data. No instruction reads any of it. -/

namespace Sys2Proof.Machine

/-- The graphics modes by `gm` (47_dev_vdg.md R373). -/
def graphicsMode (gm : BitVec 3) : VideoMode :=
  match gm.toNat with
  | 0 => .graphics1C
  | 1 => .graphics1R
  | 2 => .graphics2C
  | 3 => .graphics2R
  | 4 => .graphics3C
  | 5 => .graphics3R
  | 6 => .graphics6C
  | _ => .graphics6R

/-- `compose(sam, pia)` (47_dev_vdg.md R373): `g` is bit 4 of `pia`, `gm` bits 3..1, `ext` bit 1. -/
def compose (sam : BitVec 3) (pia : BitVec 5) : VideoMode :=
  let ext := pia.getLsbD 1
  if sam = 7 then .dma
  else if pia.getLsbD 4 then graphicsMode (pia.extractLsb' 1 3)
  else if sam = 0 then (if ext then .alphaExternal else .alphaInternal)
  else if sam = 2 ∧ ext = false then .semiGraphics8
  else if sam = 4 ∧ ext = false then .semiGraphics12
  else if sam = 6 ∧ ext = false then .semiGraphics24
  else .undefinedMode

/-- `set_sam_mode(m)` (47_dev_vdg.md R370). -/
def Vdg.setSamMode (v : Vdg) (m : BitVec 3) : Vdg :=
  { v with samVideoMode := m, mode := compose m v.piaVideoMode }

/-- `set_pia_mode(p)` (47_dev_vdg.md R370). -/
def Vdg.setPiaMode (v : Vdg) (p : BitVec 5) : Vdg :=
  { v with piaVideoMode := p, mode := compose v.samVideoMode p }

/-- The byte address of a display offset: the offset shifted left by nine (47_dev_vdg.md R372). -/
def displayBaseOf (offset : BitVec 7) : Word := offset.setWidth 16 <<< 9

/-- `set_video_offset(o)` (47_dev_vdg.md R370). -/
def Vdg.setVideoOffset (v : Vdg) (o : BitVec 7) : Vdg :=
  { v with displayOffset := o, displayBase := displayBaseOf o }

/-- CSS, the colour set select (47_dev_vdg.md R371). -/
def Vdg.css (v : Vdg) : Bool := v.piaVideoMode.getLsbD 0

/-! ## The picture -/

/-- The source resolution of a mode (47_dev_vdg.md R376): columns and rows of character cells, or width, height and
bits per pixel. -/
inductive Geometry where
  | cells (columns rows : Nat)
  | pixels (width height bpp : Nat)
  deriving DecidableEq, Repr

/-- The table of 47_dev_vdg.md R376; `none` where it gives no resolution. -/
def geometry : VideoMode → Option Geometry
  | .alphaInternal => some (.cells 32 16)
  | .graphics1C => some (.pixels 64 64 2)
  | .graphics1R => some (.pixels 128 64 1)
  | .graphics2C => some (.pixels 128 64 2)
  | .graphics2R => some (.pixels 128 96 1)
  | .graphics3C => some (.pixels 128 96 2)
  | .graphics3R => some (.pixels 128 192 1)
  | .graphics6C => some (.pixels 128 192 2)
  | .graphics6R => some (.pixels 256 192 1)
  | .alphaExternal | .semiGraphics4 | .semiGraphics6 | .semiGraphics8 | .semiGraphics12 | .semiGraphics24
  | .dma | .undefinedMode => none

/-- Bytes of video RAM a picture reads: one per cell, or width × height × bpp / 8 (47_dev_vdg.md R376). -/
def Geometry.bytes : Geometry → Nat
  | .cells c r => c * r
  | .pixels w h bpp => w * h * bpp / 8

/-- The picture's width in pixels: a cell is 8 wide (47_dev_vdg.md R378). -/
def Geometry.width : Geometry → Nat
  | .cells c _ => 8 * c
  | .pixels w _ _ => w

/-- The picture's height in pixels: a cell is 12 high (47_dev_vdg.md R378). -/
def Geometry.height : Geometry → Nat
  | .cells _ r => 12 * r
  | .pixels _ h _ => h

/-- What one text cell shows (47_dev_vdg.md R378): a glyph, or a block pattern, in a foreground on a background. -/
inductive TextCell where
  | glyph (code : BitVec 6) (fg bg : PaletteIndex)
  | blocks (pattern : BitVec 4) (fg bg : PaletteIndex)
  deriving DecidableEq, Repr

/-- `vram(a)` (47_dev_vdg.md R381): the cell's data, no callback; the address wraps. -/
def vram (s : State) (i : Nat) : Byte := s.cell (s.vdg.displayBase + BitVec.ofNat 16 i)

/-- The decoding of a cell byte (47_dev_vdg.md R378); black is palette index 0 (R380). -/
def textCell (css : Bool) (c : Byte) : TextCell :=
  if c.getLsbD 7 then .blocks (c.extractLsb' 0 4) (Config.sgColors (c.extractLsb' 4 3)) 0
  else if c.getLsbD 6 then .glyph (c.extractLsb' 0 6) (Config.textColors css).2 (Config.textColors css).1
  else .glyph (c.extractLsb' 0 6) (Config.textColors css).1 (Config.textColors css).2

/-- `paint_cell`: the colour of a text cell's dot (47_dev_vdg.md R378). -/
def TextCell.dot (column : Fin 8) (row : Fin 12) : TextCell → PaletteIndex
  | .glyph code fg bg => if Config.font code column row then fg else bg
  | .blocks pattern fg bg => if Config.sg4Bitmap pattern column row then fg else bg

/-- The value of pixel `k` of a byte, the most significant bits leftmost (47_dev_vdg.md R379). -/
def pixelValue (bpp : Nat) (b : Byte) (k : Nat) : Nat := b.toNat / 2 ^ (8 - bpp * (k + 1)) % 2 ^ bpp

/-- `GFX_PALETTE(mode, css, p)` (47_dev_vdg.md R379): in a C mode the entry `css * 4 + p` of its list, in an R mode one
of the pair that CSS selects. -/
def gfxPalette (mode : VideoMode) (bpp : Nat) (css : Bool) (p : Nat) : PaletteIndex :=
  if bpp = 2 then Config.gfxColours mode (Fin.ofNat 8 (css.toNat * 4 + p)) else Config.gfxPairs mode css (p == 1)

/-- The colour at column `x` and row `y` of the picture at its source resolution: `paint_cell` (47_dev_vdg.md R378) or
`paint_pixels` (R379), with 8 / bpp pixels to a byte and width / (8 / bpp) bytes to a line. -/
def sourcePixel (s : State) (g : Geometry) (x y : Nat) : PaletteIndex :=
  match g with
  | .cells c _ =>
    (textCell s.vdg.css (vram s (x / 8 + y / 12 * c))).dot (Fin.ofNat 8 (x % 8)) (Fin.ofNat 12 (y % 12))
  | .pixels w _ bpp =>
    let ppb := 8 / bpp
    gfxPalette s.vdg.mode bpp s.vdg.css (pixelValue bpp (vram s (x / ppb + y * (w / ppb))) (x % ppb))

/-- The colour at a column and row of a framebuffer of width `w` and height `h`: pixels and lines repeated where the
framebuffer is a multiple of the picture (47_dev_vdg.md R379), else free (log 30). -/
def scaledPixel (s : State) (g : Geometry) (w h x y : Nat) : PaletteIndex :=
  if w % g.width = 0 ∧ h % g.height = 0 then sourcePixel s g (x / (w / g.width)) (y / (h / g.height))
  else Config.resampled (sourcePixel s g) w h x y

/-- What `render()` paints in the current mode, as the colour at a column and row of a framebuffer of a width and
height; `none` in a mode it cannot paint (47_dev_vdg.md R377, R384, R385). `semiGraphics4` and `semiGraphics6` are
never composed (R374). -/
def painter (s : State) : Option (Nat → Nat → Nat → Nat → PaletteIndex) :=
  match s.vdg.mode with
  | .semiGraphics8 | .semiGraphics12 | .semiGraphics24 =>
    Config.renderSg s.vdg.mode s.vdg.css s.vdg.displayBase s.mem
  | .alphaInternal | .graphics1C | .graphics1R | .graphics2C | .graphics2R | .graphics3C | .graphics3R | .graphics6C
  | .graphics6R | .alphaExternal | .semiGraphics4 | .semiGraphics6 | .dma | .undefinedMode =>
    (geometry s.vdg.mode).map (scaledPixel s)

/-! ## The framebuffer -/

/-- The state with another framebuffer. -/
def State.setFb (s : State) (fb : Framebuffer) : State := { s with host := { s.host with fb := fb } }

/-- `fb_init(w, h)` (47_dev_vdg.md R380): a framebuffer of this size with the fixed palette. -/
def fbInit (w h : Nat) (s : State) : State := (s.setFb ⟨w, h, hostPalette, none⟩).emit (.fbInit w h)

/-- `fb_resolution(w, h)` (47_dev_vdg.md R380): another size, the palette kept. -/
def fbResolution (w h : Nat) (s : State) : State :=
  (s.setFb ⟨w, h, s.host.fb.palette, none⟩).emit (.fbResolution w h)

/-- The first lines of `render()`: a changed mode negotiates a new framebuffer (47_dev_vdg.md R377). -/
def negotiate (s : State) : State :=
  if s.vdg.mode = s.vdg.prevMode then s
  else
    fbResolution (Config.fbRes s.vdg.mode).1 (Config.fbRes s.vdg.mode).2
      { s with vdg := { s.vdg with prevMode := s.vdg.mode } }

/-- The picture painted over the whole framebuffer, row by row (47_dev_vdg.md R377, R380). -/
def paint (p : Nat → Nat → Nat → Nat → PaletteIndex) (s : State) : State :=
  let w := s.host.fb.width
  let h := s.host.fb.height
  s.setFb { s.host.fb with picture := some ((List.range (w * h)).map fun k => p w h (k % w) (k / w)) }

end Sys2Proof.Machine
end

