-- ==== Sys2Proof/Machine/Pia1.lean ====
section
/-! DEFINITION. PIA1 (49_dev_pia1.md): DAC, cassette input, VDG mode bits, cassette motor, audio-mux bit 1. Its four
registers are the cells 0xFF20..0xFF23. -/

namespace Sys2Proof.Machine

/-- `pia1_pa(WRITE)` (49_dev_pia1.md R432): bits 7..2 to the DAC. -/
def pia1PaWrite (v : Byte) (s : State) : State := s.emit (.writeDac (v.extractLsb' 2 6))

/-- `next_cas_byte()` (49_dev_pia1.md R435): the next byte of the file, 0x55 past its end or without a file. -/
def nextCasByte (p : Pia1) : Byte × Pia1 :=
  match p.casFile with
  | none => (0x55, p)
  | some file =>
    match file[p.casPos]? with
    | some b => (b, { p with casPos := p.casPos + 1 })
    | none => (0x55, p)

/-- The sub-bit threshold for the octet's low bit: BIT_THRESHOLD_HI or BIT_THRESHOLD_LO (49_dev_pia1.md R434). -/
def casThresholdOf (octet : Byte) : Nat := if octet.getLsbD 0 then 4 else 20

/-- An exhausted octet is replaced (49_dev_pia1.md R433). -/
def casRefill (p : Pia1) : Pia1 :=
  if p.casBitsLeft = 0 then
    let (b, p1) := nextCasByte p
    { p1 with casOctet := b, casBitsLeft := 9, casThreshold := casThresholdOf b }
  else p

/-- One sub-bit sample: the low half-cycle, then the high one (49_dev_pia1.md R433). -/
def casSample (p : Pia1) : Pia1 :=
  { p with casPhase := p.casPhase + 1, casOut := decide (p.casThreshold < p.casPhase + 1) }

/-- A complete bit cell moves on to the next bit (49_dev_pia1.md R433). -/
def casAdvance (p : Pia1) : Pia1 :=
  if p.casPhase = 2 * p.casThreshold then
    let octet := p.casOctet >>> 1
    { p with
      casPhase := 0, casOctet := octet, casBitsLeft := p.casBitsLeft - 1,
      casThreshold := if p.casBitsLeft - 1 = 0 then p.casThreshold else casThresholdOf octet }
  else p

/-- `pia1_pa(READ)` (49_dev_pia1.md R433, log 23): bit 0 is the generator's level, the other bits the cell's. -/
def pia1PaRead (s : State) : Byte × State :=
  let sampled := casSample (casRefill s.pia1)
  (s.cell 0xFF20 &&& 0xFE ||| (if sampled.casOut then 1 else 0), { s with pia1 := casAdvance sampled })

/-- `pia1_pb(WRITE)` (49_dev_pia1.md R436): bits 7..3 to the VDG. -/
def pia1PbWrite (v : Byte) (s : State) : State := { s with vdg := s.vdg.setPiaMode (v.extractLsb' 3 5) }

/-- The motor-on transition: the mounted file from its first byte, the stream on an octet boundary
(49_dev_pia1.md R438). -/
def motorOn (file : Option (List Byte)) (p : Pia1) : Pia1 :=
  { p with casFile := file, casPos := 0, casBitsLeft := 0, casPhase := 0, casOut := false }

/-- `pia1_cra(WRITE)` (49_dev_pia1.md R438): the motor starts on a change of bits 5..3 to 0b111. A change to 0b110
(motor off) does nothing. -/
def pia1CraWrite (v : Byte) (s : State) : State :=
  let p := v.extractLsb' 3 3
  let pia1 := if p ≠ s.pia1.prevCraCa2 ∧ p = 7 then motorOn s.host.mountedCas s.pia1 else s.pia1
  { s with pia1 := { pia1 with prevCraCa2 := p } }

/-- `pia1_crb(WRITE)` (49_dev_pia1.md R439). -/
def pia1CrbWrite (v : Byte) (s : State) : State := audioMuxPattern 1 v s

end Sys2Proof.Machine
end

