-- ==== Sys2Proof/Machine/Sam.lean ====
section
/-! DEFINITION. The SAM (46_dev_sam.md): the pair-set control window and the vector read-redirect. -/

namespace Sys2Proof.Machine

/-- The target bit of an address of the control window: address bits 4..1 (46_dev_sam.md R351). -/
def samTarget (a : Word) : Nat := (a.extractLsb' 1 4).toNat

/-- The sixteen bits with bit `t` set to `v`. -/
def samSetBit (sam : BitVec 16) (t : Nat) (v : Bool) : BitVec 16 :=
  if v then sam ||| (1#16 <<< t) else sam &&& ~~~(1#16 <<< t)

/-- `sam_ctl(addr, v, WRITE)` (46_dev_sam.md R351): address bit 0 is the new value of the target bit, the data byte is
not used, and every write pushes the mode and the display offset to the VDG. -/
def samCtlWrite (a : Word) (s : State) : State :=
  let sam := samSetBit s.sam (samTarget a) (a.getLsbD 0)
  { s with sam := sam, vdg := (s.vdg.setSamMode (sam.extractLsb' 0 3)).setVideoOffset (sam.extractLsb' 3 7) }

/-- `sam_ctl(addr, cell, READ)`: no SAM bit changes and the byte is any (46_dev_sam.md R352, log 8). -/
def samCtlRead (s : State) : Byte × State := s.drawByte

/-- The address a read of the vector window is redirected to, 0x4000 lower (46_dev_sam.md R356). -/
def vectorTarget (a : Word) : Word := a &&& 0xBFFF

/-- `sam_vec(addr, cell, READ)` (46_dev_sam.md R356): the target cell's data, read directly. -/
def samVecRead (a : Word) (s : State) : Byte × State := (s.cell (vectorTarget a), s)

end Sys2Proof.Machine
end

