-- ==== Sys2Proof/Machine/Fabric.lean ====
section
/-! DEFINITION. The memory fabric (20_memory.md): `Read8` and `Write8`, which every access of the CPU goes through,
instruction fetch included, and the callbacks of the IO cells. -/

namespace Sys2Proof.Machine

/-- The READ callback of an IO cell: the byte it returns (20_memory.md R52; per device 46, 48, 49). A callback that
the device files call passive returns the cell. -/
def ioRead (p : IoPort) (a : Word) (s : State) : Byte × State :=
  match p with
  | .pia0Pa => pia0PaRead s
  | .pia0Cra => (s.cell a, s)
  | .pia0Pb => pia0PbRead s
  | .pia0Crb => (s.cell a, s)
  | .pia1Pa => pia1PaRead s
  | .pia1Cra => (s.cell a, s)
  | .pia1Pb => (s.cell a, s)
  | .pia1Crb => (s.cell a, s)
  | .samCtl => samCtlRead s
  | .samVec => samVecRead a s

/-- The WRITE callback of an IO cell, run after the store (20_memory.md R53). PIA0 PA (48_dev_pia0.md R403) and the
vector window (46_dev_sam.md R356) do nothing. -/
def ioWrite (p : IoPort) (a : Word) (v : Byte) (s : State) : State :=
  match p with
  | .pia0Pa => s
  | .pia0Cra => pia0CraWrite v s
  | .pia0Pb => pia0PbWrite v s
  | .pia0Crb => pia0CrbWrite v s
  | .pia1Pa => pia1PaWrite v s
  | .pia1Cra => pia1CraWrite v s
  | .pia1Pb => pia1PbWrite v s
  | .pia1Crb => pia1CrbWrite v s
  | .samCtl => samCtlWrite a s
  | .samVec => s

/-- `Read8(addr)` (20_memory.md R52): an IO cell answers what its callback returns, and stores it. -/
def read8 (a : Word) (s : State) : Byte × State :=
  match cellKind a with
  | .ram => (s.cell a, s)
  | .rom => (s.cell a, s)
  | .io p => ((ioRead p a s).1, (ioRead p a s).2.setCell a (ioRead p a s).1)

/-- `Write8(addr, v)` (20_memory.md R53): a ROM cell discards, an IO cell stores and then runs its callback. -/
def write8 (a : Word) (v : Byte) (s : State) : State :=
  match cellKind a with
  | .ram => s.setCell a v
  | .rom => s
  | .io p => ioWrite p a v (s.setCell a v)

/-- `MemRead(a, 2)`: two byte reads, the lower address first, `first || second` (20_memory.md R61). -/
def memRead16 (a : Word) (s : State) : Word × State :=
  (join (read8 a s).1 (read8 (a + 1) (read8 a s).2).1, (read8 (a + 1) (read8 a s).2).2)

/-- `MemWrite(a, 2, w)`: two byte writes, the lower address first (20_memory.md R61). -/
def memWrite16 (a w : Word) (s : State) : State := write8 (a + 1) (lo w) (write8 a (hi w) s)

end Sys2Proof.Machine
end

