-- ==== Sys2Proof/Machine/Ops.lean ====
section
/-! DEFINITION. The operations the instructions share: registers by name, the two stacks, the register lists, taking
an interrupt and returning from one, raising an exception. -/

namespace Sys2Proof.Machine

/-! ## Registers by name -/

/-- The accumulators. -/
inductive Acc where
  | a | b
  deriving DecidableEq, Repr

/-- The 16-bit registers of loads, stores and compares. -/
inductive Wide where
  | d | x | y | u | s
  deriving DecidableEq, Repr

/-- The two stacks (00_scope.md R7): `system` is S, `user` is U. -/
inductive Stack where
  | system | user
  deriving DecidableEq, Repr

def State.acc (s : State) : Acc → Byte
  | .a => s.cpu.a
  | .b => s.cpu.b

def State.setAcc (s : State) (r : Acc) (v : Byte) : State :=
  match r with
  | .a => s.setA v
  | .b => s.setB v

def State.wide (s : State) : Wide → Word
  | .d => s.d
  | .x => s.cpu.x
  | .y => s.cpu.y
  | .u => s.cpu.u
  | .s => s.cpu.s

/-- A plain write: arming the NMI stands with the instructions that arm (60_exceptions.md R465). -/
def State.setWide (s : State) (r : Wide) (w : Word) : State :=
  match r with
  | .d => s.setD w
  | .x => s.setX w
  | .y => s.setY w
  | .u => s.setU w
  | .s => s.setS w

/-- The registers `RegRead` answers at their width (41_load_store_transfer.md R169): a byte or a word. -/
def isWideReg : Reg → Bool
  | .d | .x | .y | .u | .s | .pc => true
  | .a | .b | .cc | .dp => false

/-- `RegRead` of an 8-bit register (41_load_store_transfer.md R169); CC is packed. -/
def regRead8 (s : State) : Reg → Byte
  | .a => s.cpu.a
  | .b => s.cpu.b
  | .cc => packCC s.cpu.cc
  | .dp => s.cpu.dp
  | .d | .x | .y | .u | .s | .pc => 0

/-- `RegRead` of a 16-bit register (41_load_store_transfer.md R169); PC is the address after the postbyte. -/
def regRead16 (s : State) : Reg → Word
  | .d => s.d
  | .x => s.cpu.x
  | .y => s.cpu.y
  | .u => s.cpu.u
  | .s => s.cpu.s
  | .pc => s.cpu.pc
  | .a | .b | .cc | .dp => 0

/-- `RegWrite` of an 8-bit register (41_load_store_transfer.md R169); CC takes all eight flags. -/
def regWrite8 (r : Reg) (v : Byte) (s : State) : State :=
  match r with
  | .a => s.setA v
  | .b => s.setB v
  | .cc => s.setCC (unpackCC v)
  | .dp => s.setDP v
  | .d | .x | .y | .u | .s | .pc => s

/-- `RegWrite` of a 16-bit register (41_load_store_transfer.md R169): S arms the NMI, PC is a jump. -/
def regWrite16 (r : Reg) (w : Word) (s : State) : State :=
  match r with
  | .d => s.setD w
  | .x => s.setX w
  | .y => s.setY w
  | .u => s.setU w
  | .s => (s.setS w).armNmi
  | .pc => s.setPC w
  | .a | .b | .cc | .dp => s

/-- A register takes any value of its width: the destination of a mixed-size transfer (41_load_store_transfer.md
R169, log 5). -/
def regWriteFree (r : Reg) (s : State) : State :=
  let (w, s1) := s.drawWord
  if isWideReg r then regWrite16 r w s1 else regWrite8 r (lo w) s1

/-- TFR (41_load_store_transfer.md R170). -/
def transfer (r1 r2 : Reg) (s : State) : State :=
  match isWideReg r1, isWideReg r2 with
  | true, true => regWrite16 r2 (regRead16 s r1) s
  | false, false => regWrite8 r2 (regRead8 s r1) s
  | _, _ => regWriteFree r2 s

/-- EXG: both reads before both writes, `r1` written first (41_load_store_transfer.md R171). -/
def exchange (r1 r2 : Reg) (s : State) : State :=
  match isWideReg r1, isWideReg r2 with
  | true, true => regWrite16 r2 (regRead16 s r1) (regWrite16 r1 (regRead16 s r2) s)
  | false, false => regWrite8 r2 (regRead8 s r1) (regWrite8 r1 (regRead8 s r2) s)
  | _, _ => regWriteFree r2 (regWriteFree r1 s)

/-! ## Stacks -/

def State.sp (s : State) : Stack → Word
  | .system => s.cpu.s
  | .user => s.cpu.u

def State.setSP (s : State) (k : Stack) (w : Word) : State :=
  match k with
  | .system => s.setS w
  | .user => s.setU w

/-- `Push8` (00_scope.md R7): the pointer moves down before the store. -/
def push8 (k : Stack) (v : Byte) (s : State) : State := write8 (s.sp k - 1) v (s.setSP k (s.sp k - 1))

/-- `Push16` (00_scope.md R7): the low byte first, so that the high byte lies lower. -/
def push16 (k : Stack) (w : Word) (s : State) : State := push8 k (hi w) (push8 k (lo w) s)

/-- `Pull8` (00_scope.md R7): the read, then the pointer moves up. -/
def pull8 (k : Stack) (s : State) : Byte × State :=
  let p := read8 (s.sp k) s
  (p.1, p.2.setSP k (p.2.sp k + 1))

/-- `Pull16` (00_scope.md R7): the high byte first. -/
def pull16 (k : Stack) (s : State) : Word × State :=
  let p := pull8 k s
  let q := pull8 k p.2
  (join p.1 q.1, q.2)

/-- The stack pointer that a push or pull moves as data, bit 6 of its list (30_encoding.md R99). -/
def Stack.other : Stack → Stack
  | .system => .user
  | .user => .system

/-! ## Register lists -/

/-- Do `f` when the condition holds. -/
def doIf (b : Bool) (f : State → State) (s : State) : State := if b then f s else s

/-- PSHS, PSHU: the list from bit 7 down (41_load_store_transfer.md R173, R175). -/
def pushList (k : Stack) (list : Byte) (s : State) : State :=
  let s := doIf (list.getLsbD 7) (fun s => push16 k s.cpu.pc s) s
  let s := doIf (list.getLsbD 6) (fun s => push16 k (s.sp k.other) s) s
  let s := doIf (list.getLsbD 5) (fun s => push16 k s.cpu.y s) s
  let s := doIf (list.getLsbD 4) (fun s => push16 k s.cpu.x s) s
  let s := doIf (list.getLsbD 3) (fun s => push8 k s.cpu.dp s) s
  let s := doIf (list.getLsbD 2) (fun s => push8 k s.cpu.b s) s
  let s := doIf (list.getLsbD 1) (fun s => push8 k s.cpu.a s) s
  doIf (list.getLsbD 0) (fun s => push8 k (packCC s.cpu.cc) s) s

def pullCC (k : Stack) (s : State) : State := let p := pull8 k s; p.2.setCC (unpackCC p.1)
def pullA (k : Stack) (s : State) : State := let p := pull8 k s; p.2.setA p.1
def pullB (k : Stack) (s : State) : State := let p := pull8 k s; p.2.setB p.1
def pullDP (k : Stack) (s : State) : State := let p := pull8 k s; p.2.setDP p.1
def pullX (k : Stack) (s : State) : State := let p := pull16 k s; p.2.setX p.1
def pullY (k : Stack) (s : State) : State := let p := pull16 k s; p.2.setY p.1
def pullPC (k : Stack) (s : State) : State := let p := pull16 k s; p.2.setPC p.1

/-- Bit 6 of a pull: PULS loads U; PULU loads S and arms the NMI (41_load_store_transfer.md R174, R176). -/
def pullOther (k : Stack) (s : State) : State :=
  let p := pull16 k s
  match k with
  | .system => p.2.setU p.1
  | .user => (p.2.setS p.1).armNmi

/-- PULS, PULU: the list from bit 0 up (41_load_store_transfer.md R174, R176). -/
def pullList (k : Stack) (list : Byte) (s : State) : State :=
  let s := doIf (list.getLsbD 0) (pullCC k) s
  let s := doIf (list.getLsbD 1) (pullA k) s
  let s := doIf (list.getLsbD 2) (pullB k) s
  let s := doIf (list.getLsbD 3) (pullDP k) s
  let s := doIf (list.getLsbD 4) (pullX k) s
  let s := doIf (list.getLsbD 5) (pullY k) s
  let s := doIf (list.getLsbD 6) (pullOther k) s
  doIf (list.getLsbD 7) (pullPC k) s

/-! ## Taking an interrupt -/

/-- The interrupts (60_exceptions.md R466). Reset is none (R462). -/
inductive Interrupt where
  | nmi | firq | irq | swi | swi2 | swi3
  deriving DecidableEq, Repr

/-- `vector(kind)` (20_memory.md R65). -/
def vector : Interrupt → Word
  | .nmi => 0xFFFC
  | .firq => 0xFFF6
  | .irq => 0xFFF8
  | .swi => 0xFFFA
  | .swi2 => 0xFFF4
  | .swi3 => 0xFFF2

def State.setE (s : State) (e : Bool) : State := s.setCC { s.cpu.cc with e := e }

/-- The full frame: PC, U, Y, X, DP, B, A, CC pushed on S (60_exceptions.md R467). -/
def pushFullFrame (s : State) : State := pushList .system 0xFF s

/-- The interrupts that can end a CWAI wait; the software interrupts always push (60_exceptions.md R466,
92_eei_decisions.md D52). -/
def Interrupt.isHardware : Interrupt → Bool
  | .nmi | .firq | .irq => true
  | .swi | .swi2 | .swi3 => false

/-- The first part of an entry: E in the live CC and the frame on S; when it ends a CWAI wait the frame is there
already and E stays (60_exceptions.md R466). -/
def stackFrame (k : Interrupt) (s : State) : State :=
  if s.ctl.cwaiStacked && k.isHardware then s.setCwaiStacked false
  else if k = .firq then pushList .system 0x81 (s.setE false)
  else pushFullFrame (s.setE true)

/-- The masks an entry sets after the push, and the NMI latch it clears (60_exceptions.md R466). -/
def maskFor (k : Interrupt) (s : State) : State :=
  match k with
  | .nmi =>
    let t := s.setCC { s.cpu.cc with f := true, i := true }
    { t with ctl := { t.ctl with nmiLatch := false } }
  | .firq => s.setCC { s.cpu.cc with f := true, i := true }
  | .irq => s.setCC { s.cpu.cc with i := true }
  | .swi => s.setCC { s.cpu.cc with f := true, i := true }
  | .swi2 => s
  | .swi3 => s

/-- PC from a vector, read through the fabric (20_memory.md R65). -/
def loadVector (v : Word) (s : State) : State :=
  let p := memRead16 v s
  p.2.setPC p.1

/-- `Interrupt(kind)`, the entry sequence (60_exceptions.md R466). -/
def enterInterrupt (k : Interrupt) (s : State) : State :=
  (loadVector (vector k) (maskFor k (stackFrame k s))).setRunState .exec

/-- The cycles RTI adds when it pulls the full frame (70_reset_and_hazards.md R540). -/
def addCycles (n : Nat) (s : State) : State := { s with dbg := { s.dbg with lastCycles := s.dbg.lastCycles + n } }

/-- RTI (45_system.md R333): CC, then the rest of the frame if the pulled E is 1, then PC. -/
def returnFromInterrupt (s : State) : State :=
  let t := pullCC .system s
  pullPC .system (if t.cpu.cc.e then addCycles 9 (pullList .system 0x7E t) else t)

/-! ## Raising an exception -/

/-- `raise Exception(cause)` (60_exceptions.md R470): the step ends in EXCEPTION, nothing but PC, `exc_cause` and the
run state changes, and PC is any address from the instruction's first byte to the byte after the `fetched` ones
(93_implementation_defined.md U7, log 6). -/
def raiseException (cause : ExcCause) (fetched : Nat) (s : State) : State :=
  let pc := s.dbg.lastPc + BitVec.ofNat 16 (Config.freeCount s.draws % (fetched + 1))
  (({ s.drawn with dbg := { s.dbg with excCause := some cause } }).setPC pc).setRunState .exception

end Sys2Proof.Machine
end

