-- ==== Sys2Proof/Machine/Operands.lean ====
section
/-! DEFINITION. The operands (40_addressing_modes.md): the effective address with its register side effects, the 8-bit
and 16-bit source operands, and the shapes in which the instructions use them. PC is the address after the whole
instruction when these run (10_state.md R13). -/

namespace Sys2Proof.Machine

/-! ## Effective addresses -/

/-- The register `R` of an indexed form (40_addressing_modes.md R128). -/
def State.idx (s : State) : IdxReg → Word
  | .x => s.cpu.x
  | .y => s.cpu.y
  | .u => s.cpu.u
  | .s => s.cpu.s

/-- A write of `R`; it does not arm the NMI (40_addressing_modes.md R146). -/
def State.setIdx (s : State) (r : IdxReg) (w : Word) : State :=
  match r with
  | .x => s.setX w
  | .y => s.setY w
  | .u => s.setU w
  | .s => s.setS w

/-- The address a submode computes, before any indirection (40_addressing_modes.md R130..R142). -/
def formAddress (r : IdxReg) (m : Submode) (s : State) : Word :=
  match m with
  | .postInc1 => s.idx r
  | .postInc2 => s.idx r
  | .preDec1 => s.idx r - 1
  | .preDec2 => s.idx r - 2
  | .noOffset => s.idx r
  | .offB => s.idx r + sext8 s.cpu.b
  | .offA => s.idx r + sext8 s.cpu.a
  | .off8 n => s.idx r + sext8 n
  | .off16 n => s.idx r + n
  | .offD => s.idx r + s.d
  | .pc8 n => s.cpu.pc + sext8 n
  | .pc16 n => s.cpu.pc + n
  | .extended a => a

/-- The update of `R` by the auto forms (40_addressing_modes.md R130..R133). -/
def autoUpdate (r : IdxReg) (m : Submode) (s : State) : State :=
  match m with
  | .postInc1 => s.setIdx r (s.idx r + 1)
  | .postInc2 => s.setIdx r (s.idx r + 2)
  | .preDec1 => s.setIdx r (s.idx r - 1)
  | .preDec2 => s.setIdx r (s.idx r - 2)
  | .noOffset | .offB | .offA | .off8 _ | .off16 _ | .offD | .pc8 _ | .pc16 _ | .extended _ => s

/-- `EA(INDEXED)` (40_addressing_modes.md R129, R143, R146): `R` is updated before a pointer is read. -/
def eaIndexed (ix : Indexed) (s : State) : Word × State :=
  match ix with
  | .off5 r n => (s.idx r + sext5 n, s)
  | .sub r ind m =>
    if ind then memRead16 (formAddress r m s) (autoUpdate r m s)
    else (formAddress r m s, autoUpdate r m s)

/-- `EA(mode)` (40_addressing_modes.md R120, R124, R125). -/
def ea (m : Mem) (s : State) : Word × State :=
  match m with
  | .direct d => (join s.cpu.dp d, s)
  | .extended a => (a, s)
  | .indexed ix => eaIndexed ix s

/-- `Operand8(mode)` (40_addressing_modes.md R120). -/
def operand8 (o : Src8) (s : State) : Byte × State :=
  match o with
  | .imm v => (v, s)
  | .mem m => read8 (ea m s).1 (ea m s).2

/-- `Operand16(mode)` (40_addressing_modes.md R120). -/
def operand16 (o : Src16) (s : State) : Word × State :=
  match o with
  | .imm v => (v, s)
  | .mem m => memRead16 (ea m s).1 (ea m s).2

/-! ## The shapes of the instructions -/

/-- `r <- Operand8; SetNZ8; V <- 0` (41_load_store_transfer.md R151). -/
def load8 (r : Acc) (o : Src8) (s : State) : State :=
  let p := operand8 o s
  (p.2.setAcc r p.1).setCC (move8 p.1 p.2.cpu.cc)

/-- `r <- Operand16; SetNZ16; V <- 0` (41_load_store_transfer.md R153). -/
def load16 (r : Wide) (o : Src16) (s : State) : State :=
  let p := operand16 o s
  (p.2.setWide r p.1).setCC (move16 p.1 p.2.cpu.cc)

/-- `ea <- EA; Write8(ea, r)` and the flags of the value stored (41_load_store_transfer.md R158). The register is
read after the address has been computed (40_addressing_modes.md R146). -/
def store8 (r : Acc) (m : Mem) (s : State) : State :=
  let p := ea m s
  let v := p.2.acc r
  let t := write8 p.1 v p.2
  t.setCC (move8 v t.cpu.cc)

/-- `ea <- EA; MemWrite(ea, 2, r)` and the flags of the value stored (41_load_store_transfer.md R160). -/
def store16 (r : Wide) (m : Mem) (s : State) : State :=
  let p := ea m s
  let w := p.2.wide r
  let t := memWrite16 p.1 w p.2
  t.setCC (move16 w t.cpu.cc)

/-- LEA: the register takes the effective address (41_load_store_transfer.md R165); no flag. -/
def loadEA (r : Wide) (ix : Indexed) (s : State) : State :=
  let p := eaIndexed ix s
  p.2.setWide r p.1

/-- LEAX and LEAY set Z too (41_load_store_transfer.md R165, R166). -/
def loadEAZ (r : Wide) (ix : Indexed) (s : State) : State :=
  let t := loadEA r ix s
  t.setCC { t.cpu.cc with z := t.wide r == 0 }

/-- `r <- f(r, m)` with its flags, for an accumulator. -/
def accOp (f : Byte → Byte → CC → Byte × CC) (r : Acc) (o : Src8) (s : State) : State :=
  let p := operand8 o s
  let q := f (p.2.acc r) p.1 p.2.cpu.cc
  (p.2.setAcc r q.1).setCC q.2

/-- The flags of `f(r, m)` alone: compares and bit tests. -/
def accTest (f : Byte → Byte → CC → Byte × CC) (r : Acc) (o : Src8) (s : State) : State :=
  let p := operand8 o s
  p.2.setCC (f (p.2.acc r) p.1 p.2.cpu.cc).2

/-- As `accOp`, with a free half carry drawn after the operand is read (log 7). -/
def accOpFree (f : Bool → Byte → Byte → CC → Byte × CC) (r : Acc) (o : Src8) (s : State) : State :=
  let p := operand8 o s
  let d := p.2.drawBit
  let q := f d.1 (d.2.acc r) p.1 d.2.cpu.cc
  (d.2.setAcc r q.1).setCC q.2

/-- As `accTest`, with a free half carry (log 7). -/
def accTestFree (f : Bool → Byte → Byte → CC → Byte × CC) (r : Acc) (o : Src8) (s : State) : State :=
  let p := operand8 o s
  let d := p.2.drawBit
  d.2.setCC (f d.1 (d.2.acc r) p.1 d.2.cpu.cc).2

/-- `r <- f(r, w)` with its flags, for a 16-bit register. -/
def wideOp (f : Word → Word → CC → Word × CC) (r : Wide) (o : Src16) (s : State) : State :=
  let p := operand16 o s
  let q := f (p.2.wide r) p.1 p.2.cpu.cc
  (p.2.setWide r q.1).setCC q.2

/-- The flags of `f(r, w)` alone. -/
def wideTest (f : Word → Word → CC → Word × CC) (r : Wide) (o : Src16) (s : State) : State :=
  let p := operand16 o s
  p.2.setCC (f (p.2.wide r) p.1 p.2.cpu.cc).2

/-- The register form of a single-operand instruction, `r <- f(r)` (42_arithmetic.md R209). -/
def unaryAcc (f : Byte → CC → Byte × CC) (r : Acc) (s : State) : State :=
  let q := f (s.acc r) s.cpu.cc
  (s.setAcc r q.1).setCC q.2

/-- As `unaryAcc`, with a free half carry (log 7). -/
def unaryAccFree (f : Bool → Byte → CC → Byte × CC) (r : Acc) (s : State) : State :=
  let d := s.drawBit
  unaryAcc (f d.1) r d.2

/-- The memory form of a single-operand instruction: one read, then one write of the same address, with the flags of
the computed result (42_arithmetic.md R209). -/
def modify (f : Byte → CC → Byte × CC) (m : Mem) (s : State) : State :=
  let p := ea m s
  let q := read8 p.1 p.2
  let r := f q.1 q.2.cpu.cc
  (write8 p.1 r.1 q.2).setCC r.2

/-- As `modify`, with a free half carry drawn after the read (log 7). -/
def modifyFree (f : Bool → Byte → CC → Byte × CC) (m : Mem) (s : State) : State :=
  let p := ea m s
  let q := read8 p.1 p.2
  let d := q.2.drawBit
  let r := f d.1 q.1 d.2.cpu.cc
  (write8 p.1 r.1 d.2).setCC r.2

/-- TST on memory: one read, no write (42_arithmetic.md R221). -/
def testMem (m : Mem) (s : State) : State :=
  let p := ea m s
  let q := read8 p.1 p.2
  q.2.setCC (move8 q.1 q.2.cpu.cc)

/-- CLR on memory: the byte is read first if `CLR_MEM_READS` (42_arithmetic.md R209, R224). -/
def clearMem (m : Mem) (s : State) : State :=
  let p := ea m s
  let t := if Config.clrMemReads then (read8 p.1 p.2).2 else p.2
  let r := clr8 t.cpu.cc
  (write8 p.1 r.1 t).setCC r.2

end Sys2Proof.Machine
end

