-- ==== Sys2Proof/Machine/Arithmetic.lean ====
section
/-! DEFINITION. The meanings of 42_arithmetic.md: arithmetic.
One definition per instruction, over the shared operations; PC is the address after the whole instruction when a
meaning runs. Every meaning answers a next state. -/

namespace Sys2Proof.Machine

/-- ADDA (R192). -/
def execAdda (o : Src8) (s : State) : Result := .next (accOp (fun a m cc => add8 a m false cc) .a o s)

/-- ADDB (R193). -/
def execAddb (o : Src8) (s : State) : Result := .next (accOp (fun a m cc => add8 a m false cc) .b o s)

/-- ADDD (R194). -/
def execAddd (o : Src16) (s : State) : Result := .next (wideOp add16 .d o s)

/-- ADCA (R195). -/
def execAdca (o : Src8) (s : State) : Result := .next (accOp (fun a m cc => add8 a m cc.c cc) .a o s)

/-- ADCB (R196). -/
def execAdcb (o : Src8) (s : State) : Result := .next (accOp (fun a m cc => add8 a m cc.c cc) .b o s)

/-- SUBA (R197). -/
def execSuba (o : Src8) (s : State) : Result := .next (accOpFree (fun h a m cc => sub8 h a m false cc) .a o s)

/-- SUBB (R198). -/
def execSubb (o : Src8) (s : State) : Result := .next (accOpFree (fun h a m cc => sub8 h a m false cc) .b o s)

/-- SUBD (R199). -/
def execSubd (o : Src16) (s : State) : Result := .next (wideOp sub16 .d o s)

/-- SBCA (R200). -/
def execSbca (o : Src8) (s : State) : Result := .next (accOpFree (fun h a m cc => sub8 h a m cc.c cc) .a o s)

/-- SBCB (R201). -/
def execSbcb (o : Src8) (s : State) : Result := .next (accOpFree (fun h a m cc => sub8 h a m cc.c cc) .b o s)

/-- CMPA (R202). -/
def execCmpa (o : Src8) (s : State) : Result := .next (accTestFree (fun h a m cc => sub8 h a m false cc) .a o s)

/-- CMPB (R203). -/
def execCmpb (o : Src8) (s : State) : Result := .next (accTestFree (fun h a m cc => sub8 h a m false cc) .b o s)

/-- CMPD (R204). -/
def execCmpd (o : Src16) (s : State) : Result := .next (wideTest sub16 .d o s)

/-- CMPX (R205). -/
def execCmpx (o : Src16) (s : State) : Result := .next (wideTest sub16 .x o s)

/-- CMPY (R206). -/
def execCmpy (o : Src16) (s : State) : Result := .next (wideTest sub16 .y o s)

/-- CMPU (R207). -/
def execCmpu (o : Src16) (s : State) : Result := .next (wideTest sub16 .u o s)

/-- CMPS (R208). -/
def execCmps (o : Src16) (s : State) : Result := .next (wideTest sub16 .s o s)

/-- NEGA (R210). -/
def execNega (s : State) : Result := .next (unaryAccFree neg8 .a s)

/-- NEGB (R211). -/
def execNegb (s : State) : Result := .next (unaryAccFree neg8 .b s)

/-- NEG (R212). -/
def execNeg (m : Mem) (s : State) : Result := .next (modifyFree neg8 m s)

/-- INCA (R213). -/
def execInca (s : State) : Result := .next (unaryAcc inc8 .a s)

/-- INCB (R214). -/
def execIncb (s : State) : Result := .next (unaryAcc inc8 .b s)

/-- INC (R215). -/
def execInc (m : Mem) (s : State) : Result := .next (modify inc8 m s)

/-- DECA (R216). -/
def execDeca (s : State) : Result := .next (unaryAcc dec8 .a s)

/-- DECB (R217). -/
def execDecb (s : State) : Result := .next (unaryAcc dec8 .b s)

/-- DEC (R218). -/
def execDec (m : Mem) (s : State) : Result := .next (modify dec8 m s)

/-- TSTA (R219). -/
def execTsta (s : State) : Result := .next (s.setCC (move8 s.cpu.a s.cpu.cc))

/-- TSTB (R220). -/
def execTstb (s : State) : Result := .next (s.setCC (move8 s.cpu.b s.cpu.cc))

/-- TST (R221). -/
def execTst (m : Mem) (s : State) : Result := .next (testMem m s)

/-- CLRA (R222). -/
def execClra (s : State) : Result := .next (unaryAcc (fun _ cc => clr8 cc) .a s)

/-- CLRB (R223). -/
def execClrb (s : State) : Result := .next (unaryAcc (fun _ cc => clr8 cc) .b s)

/-- CLR (R224). -/
def execClr (m : Mem) (s : State) : Result := .next (clearMem m s)

/-- MUL (R225). -/
def execMul (s : State) : Result :=
  .next ((s.setD (mul8 s.cpu.a s.cpu.b s.cpu.cc).1).setCC (mul8 s.cpu.a s.cpu.b s.cpu.cc).2)

/-- DAA (R226). -/
def execDaa (s : State) : Result := .next (unaryAcc daa8 .a s)

/-- SEX (R227). -/
def execSex (s : State) : Result := .next ((s.setD (sexWord s.cpu.b s.cpu.cc).1).setCC (sexWord s.cpu.b s.cpu.cc).2)

/-- ABX (R228). B is zero-extended; no flag. -/
def execAbx (s : State) : Result := .next (s.setX (s.cpu.x + zext8 s.cpu.b))

end Sys2Proof.Machine
end

