-- ==== Sys2Proof/Machine/Branch.lean ====
section
/-! DEFINITION. The meanings of 44_branch_jump.md: branches, jumps, calls and returns, NOP.
One definition per instruction, over the shared operations; PC is the address after the whole instruction when a
meaning runs. Every meaning answers a next state. -/

namespace Sys2Proof.Machine

/-- A relative branch: PC is the address of the next instruction (44_branch_jump.md R280). -/
def branchIf (taken : Bool) (off : Word) (s : State) : State := if taken then s.setPC (s.cpu.pc + off) else s

/-- A call: the return address on S, then the jump (44_branch_jump.md R315). -/
def callTo (target : Word) (s : State) : State := (push16 .system s.cpu.pc s).setPC target

/-- BRA (R282). -/
def execBra (off : Byte) (s : State) : Result := .next (branchIf true (sext8 off) s)

/-- BRN (R283). -/
def execBrn (off : Byte) (s : State) : Result := .next (branchIf false (sext8 off) s)

/-- BHI (R284). -/
def execBhi (off : Byte) (s : State) : Result := .next (branchIf (condHI s.cpu.cc) (sext8 off) s)

/-- BLS (R285). -/
def execBls (off : Byte) (s : State) : Result := .next (branchIf (condLS s.cpu.cc) (sext8 off) s)

/-- BCC (R286). -/
def execBcc (off : Byte) (s : State) : Result := .next (branchIf (condCC s.cpu.cc) (sext8 off) s)

/-- BCS (R287). -/
def execBcs (off : Byte) (s : State) : Result := .next (branchIf (condCS s.cpu.cc) (sext8 off) s)

/-- BNE (R288). -/
def execBne (off : Byte) (s : State) : Result := .next (branchIf (condNE s.cpu.cc) (sext8 off) s)

/-- BEQ (R289). -/
def execBeq (off : Byte) (s : State) : Result := .next (branchIf (condEQ s.cpu.cc) (sext8 off) s)

/-- BVC (R290). -/
def execBvc (off : Byte) (s : State) : Result := .next (branchIf (condVC s.cpu.cc) (sext8 off) s)

/-- BVS (R291). -/
def execBvs (off : Byte) (s : State) : Result := .next (branchIf (condVS s.cpu.cc) (sext8 off) s)

/-- BPL (R292). -/
def execBpl (off : Byte) (s : State) : Result := .next (branchIf (condPL s.cpu.cc) (sext8 off) s)

/-- BMI (R293). -/
def execBmi (off : Byte) (s : State) : Result := .next (branchIf (condMI s.cpu.cc) (sext8 off) s)

/-- BGE (R294). -/
def execBge (off : Byte) (s : State) : Result := .next (branchIf (condGE s.cpu.cc) (sext8 off) s)

/-- BLT (R295). -/
def execBlt (off : Byte) (s : State) : Result := .next (branchIf (condLT s.cpu.cc) (sext8 off) s)

/-- BGT (R296). -/
def execBgt (off : Byte) (s : State) : Result := .next (branchIf (condGT s.cpu.cc) (sext8 off) s)

/-- BLE (R297). -/
def execBle (off : Byte) (s : State) : Result := .next (branchIf (condLE s.cpu.cc) (sext8 off) s)

/-- LBRA (R298). -/
def execLbra (off : Word) (s : State) : Result := .next (branchIf true off s)

/-- LBRN (R299). -/
def execLbrn (off : Word) (s : State) : Result := .next (branchIf false off s)

/-- LBHI (R300). -/
def execLbhi (off : Word) (s : State) : Result := .next (branchIf (condHI s.cpu.cc) off s)

/-- LBLS (R301). -/
def execLbls (off : Word) (s : State) : Result := .next (branchIf (condLS s.cpu.cc) off s)

/-- LBCC (R302). -/
def execLbcc (off : Word) (s : State) : Result := .next (branchIf (condCC s.cpu.cc) off s)

/-- LBCS (R303). -/
def execLbcs (off : Word) (s : State) : Result := .next (branchIf (condCS s.cpu.cc) off s)

/-- LBNE (R304). -/
def execLbne (off : Word) (s : State) : Result := .next (branchIf (condNE s.cpu.cc) off s)

/-- LBEQ (R305). -/
def execLbeq (off : Word) (s : State) : Result := .next (branchIf (condEQ s.cpu.cc) off s)

/-- LBVC (R306). -/
def execLbvc (off : Word) (s : State) : Result := .next (branchIf (condVC s.cpu.cc) off s)

/-- LBVS (R307). -/
def execLbvs (off : Word) (s : State) : Result := .next (branchIf (condVS s.cpu.cc) off s)

/-- LBPL (R308). -/
def execLbpl (off : Word) (s : State) : Result := .next (branchIf (condPL s.cpu.cc) off s)

/-- LBMI (R309). -/
def execLbmi (off : Word) (s : State) : Result := .next (branchIf (condMI s.cpu.cc) off s)

/-- LBGE (R310). -/
def execLbge (off : Word) (s : State) : Result := .next (branchIf (condGE s.cpu.cc) off s)

/-- LBLT (R311). -/
def execLblt (off : Word) (s : State) : Result := .next (branchIf (condLT s.cpu.cc) off s)

/-- LBGT (R312). -/
def execLbgt (off : Word) (s : State) : Result := .next (branchIf (condGT s.cpu.cc) off s)

/-- LBLE (R313). -/
def execLble (off : Word) (s : State) : Result := .next (branchIf (condLE s.cpu.cc) off s)

/-- JMP (R314). Memory at the address is not read. -/
def execJmp (m : Mem) (s : State) : Result := .next ((ea m s).2.setPC (ea m s).1)

/-- JSR (R315). The address is computed before the push. -/
def execJsr (m : Mem) (s : State) : Result := .next (callTo (ea m s).1 (ea m s).2)

/-- BSR (R316). -/
def execBsr (off : Byte) (s : State) : Result := .next (callTo (s.cpu.pc + sext8 off) s)

/-- LBSR (R317). -/
def execLbsr (off : Word) (s : State) : Result := .next (callTo (s.cpu.pc + off) s)

/-- RTS (R318). -/
def execRts (s : State) : Result := .next (pullPC .system s)

/-- NOP (R319). -/
def execNop (s : State) : Result := .next s

end Sys2Proof.Machine
end

