-- ==== Sys2Proof/Machine/LoadStore.lean ====
section
/-! DEFINITION. The meanings of 41_load_store_transfer.md: loads, stores, LEA, register transfers, stack push and pull.
One definition per instruction, over the shared operations; PC is the address after the whole instruction when a
meaning runs. Every meaning answers a next state. -/

namespace Sys2Proof.Machine

/-- LDA (R151). -/
def execLda (o : Src8) (s : State) : Result := .next (load8 .a o s)

/-- LDB (R152). -/
def execLdb (o : Src8) (s : State) : Result := .next (load8 .b o s)

/-- LDD (R153). -/
def execLdd (o : Src16) (s : State) : Result := .next (load16 .d o s)

/-- LDX (R154). -/
def execLdx (o : Src16) (s : State) : Result := .next (load16 .x o s)

/-- LDY (R155). -/
def execLdy (o : Src16) (s : State) : Result := .next (load16 .y o s)

/-- LDU (R156). -/
def execLdu (o : Src16) (s : State) : Result := .next (load16 .u o s)

/-- LDS (R157). Arms the NMI in every mode. -/
def execLds (o : Src16) (s : State) : Result := .next ((load16 .s o s).armNmi)

/-- STA (R158). -/
def execSta (m : Mem) (s : State) : Result := .next (store8 .a m s)

/-- STB (R159). -/
def execStb (m : Mem) (s : State) : Result := .next (store8 .b m s)

/-- STD (R160). -/
def execStd (m : Mem) (s : State) : Result := .next (store16 .d m s)

/-- STX (R161). -/
def execStx (m : Mem) (s : State) : Result := .next (store16 .x m s)

/-- STY (R162). -/
def execSty (m : Mem) (s : State) : Result := .next (store16 .y m s)

/-- STU (R163). -/
def execStu (m : Mem) (s : State) : Result := .next (store16 .u m s)

/-- STS (R164). -/
def execSts (m : Mem) (s : State) : Result := .next (store16 .s m s)

/-- LEAX (R165). Z too. -/
def execLeax (ix : Indexed) (s : State) : Result := .next (loadEAZ .x ix s)

/-- LEAY (R166). Z too. -/
def execLeay (ix : Indexed) (s : State) : Result := .next (loadEAZ .y ix s)

/-- LEAS (R167). No flag, arms the NMI. -/
def execLeas (ix : Indexed) (s : State) : Result := .next ((loadEA .s ix s).armNmi)

/-- LEAU (R168). No flag. -/
def execLeau (ix : Indexed) (s : State) : Result := .next (loadEA .u ix s)

/-- TFR (R170). -/
def execTfr (r1 r2 : Reg) (s : State) : Result := .next (transfer r1 r2 s)

/-- EXG (R171). -/
def execExg (r1 r2 : Reg) (s : State) : Result := .next (exchange r1 r2 s)

/-- PSHS (R173). -/
def execPshs (list : Byte) (s : State) : Result := .next (pushList .system list s)

/-- PULS (R174). -/
def execPuls (list : Byte) (s : State) : Result := .next (pullList .system list s)

/-- PSHU (R175). -/
def execPshu (list : Byte) (s : State) : Result := .next (pushList .user list s)

/-- PULU (R176). -/
def execPulu (list : Byte) (s : State) : Result := .next (pullList .user list s)

end Sys2Proof.Machine
end

