-- ==== Sys2Proof/Machine/Logic.lean ====
section
/-! DEFINITION. The meanings of 43_logic_shift.md: logic, condition codes, shifts and rotates.
One definition per instruction, over the shared operations; PC is the address after the whole instruction when a
meaning runs. Every meaning answers a next state. -/

namespace Sys2Proof.Machine

/-- ANDA (R240). -/
def execAnda (o : Src8) (s : State) : Result := .next (accOp and8 .a o s)

/-- ANDB (R241). -/
def execAndb (o : Src8) (s : State) : Result := .next (accOp and8 .b o s)

/-- ORA (R242). -/
def execOra (o : Src8) (s : State) : Result := .next (accOp or8 .a o s)

/-- ORB (R243). -/
def execOrb (o : Src8) (s : State) : Result := .next (accOp or8 .b o s)

/-- EORA (R244). -/
def execEora (o : Src8) (s : State) : Result := .next (accOp eor8 .a o s)

/-- EORB (R245). -/
def execEorb (o : Src8) (s : State) : Result := .next (accOp eor8 .b o s)

/-- BITA (R246). -/
def execBita (o : Src8) (s : State) : Result := .next (accTest and8 .a o s)

/-- BITB (R247). -/
def execBitb (o : Src8) (s : State) : Result := .next (accTest and8 .b o s)

/-- COMA (R248). -/
def execComa (s : State) : Result := .next (unaryAcc com8 .a s)

/-- COMB (R249). -/
def execComb (s : State) : Result := .next (unaryAcc com8 .b s)

/-- COM (R250). -/
def execCom (m : Mem) (s : State) : Result := .next (modify com8 m s)

/-- ANDCC (R251). -/
def execAndcc (m : Byte) (s : State) : Result := .next (s.setCC (unpackCC (packCC s.cpu.cc &&& m)))

/-- ORCC (R252). -/
def execOrcc (m : Byte) (s : State) : Result := .next (s.setCC (unpackCC (packCC s.cpu.cc ||| m)))

/-- ASLA (R253). -/
def execAsla (s : State) : Result := .next (unaryAccFree asl8 .a s)

/-- ASLB (R254). -/
def execAslb (s : State) : Result := .next (unaryAccFree asl8 .b s)

/-- ASL (R255). -/
def execAsl (m : Mem) (s : State) : Result := .next (modifyFree asl8 m s)

/-- ASRA (R256). -/
def execAsra (s : State) : Result := .next (unaryAccFree asr8 .a s)

/-- ASRB (R257). -/
def execAsrb (s : State) : Result := .next (unaryAccFree asr8 .b s)

/-- ASR (R258). -/
def execAsr (m : Mem) (s : State) : Result := .next (modifyFree asr8 m s)

/-- LSRA (R259). -/
def execLsra (s : State) : Result := .next (unaryAcc lsr8 .a s)

/-- LSRB (R260). -/
def execLsrb (s : State) : Result := .next (unaryAcc lsr8 .b s)

/-- LSR (R261). -/
def execLsr (m : Mem) (s : State) : Result := .next (modify lsr8 m s)

/-- ROLA (R262). -/
def execRola (s : State) : Result := .next (unaryAcc rol8 .a s)

/-- ROLB (R263). -/
def execRolb (s : State) : Result := .next (unaryAcc rol8 .b s)

/-- ROL (R264). -/
def execRol (m : Mem) (s : State) : Result := .next (modify rol8 m s)

/-- RORA (R265). -/
def execRora (s : State) : Result := .next (unaryAcc ror8 .a s)

/-- RORB (R266). -/
def execRorb (s : State) : Result := .next (unaryAcc ror8 .b s)

/-- ROR (R267). -/
def execRor (m : Mem) (s : State) : Result := .next (modify ror8 m s)

end Sys2Proof.Machine
end

