-- ==== Sys2Proof/Machine/System.lean ====
section
/-! DEFINITION. The meanings of 45_system.md: software interrupts, RTI, CWAI, SYNC.
One definition per instruction, over the shared operations; PC is the address after the whole instruction when a
meaning runs. Every meaning answers a next state. -/

namespace Sys2Proof.Machine

/-- CWAI (45_system.md R334): CC and the mask, E = 1, the full frame on S, and the wait. -/
def waitStacked (m : Byte) (s : State) : State :=
  let t := (s.setCC (unpackCC (packCC s.cpu.cc &&& m))).setE true
  ((pushFullFrame t).setCwaiStacked true).setRunState .sync

/-- SWI (R330). -/
def execSwi (s : State) : Result := .next (enterInterrupt .swi s)

/-- SWI2 (R331). -/
def execSwi2 (s : State) : Result := .next (enterInterrupt .swi2 s)

/-- SWI3 (R332). -/
def execSwi3 (s : State) : Result := .next (enterInterrupt .swi3 s)

/-- RTI (R333). -/
def execRti (s : State) : Result := .next (returnFromInterrupt s)

/-- CWAI (R334). -/
def execCwai (m : Byte) (s : State) : Result := .next (waitStacked m s)

/-- SYNC (R335). -/
def execSync (s : State) : Result := .next (s.setRunState .sync)

end Sys2Proof.Machine
end

