-- ==== Sys2Proof/Machine/Timing.lean ====
section
/-! DEFINITION. Cycle counts: the value of `last_cycles` (70_reset_and_hazards.md R540), which no instruction reads.
Base cycles are those of spec/opcode_table.json. -/

namespace Sys2Proof.Machine

/-- Extra cycles of a form with bit 7 set: the direct and the indirect count (40_addressing_modes.md R130..R143). -/
def submodeCycles (m : Submode) (ind : Bool) : Nat :=
  match m with
  | .postInc1 => 2
  | .postInc2 => if ind then 6 else 3
  | .preDec1 => 2
  | .preDec2 => if ind then 6 else 3
  | .noOffset => if ind then 3 else 0
  | .offB => if ind then 4 else 1
  | .offA => if ind then 4 else 1
  | .off8 _ => if ind then 4 else 1
  | .off16 _ => if ind then 7 else 4
  | .offD => if ind then 7 else 4
  | .pc8 _ => if ind then 4 else 1
  | .pc16 _ => if ind then 8 else 5
  | .extended _ => 5

/-- Extra cycles of an indexed operand (40_addressing_modes.md R147). -/
def indexedCycles : Indexed → Nat
  | .off5 _ _ => 1
  | .sub _ ind m => submodeCycles m ind

/-- Base cycles by mode, and the indexed extra. -/
def memCycles (direct indexed extended : Nat) : Mem → Nat
  | .direct _ => direct
  | .indexed ix => indexed + indexedCycles ix
  | .extended _ => extended

def src8Cycles (imm direct indexed extended : Nat) : Src8 → Nat
  | .imm _ => imm
  | .mem m => memCycles direct indexed extended m

def src16Cycles (imm direct indexed extended : Nat) : Src16 → Nat
  | .imm _ => imm
  | .mem m => memCycles direct indexed extended m

/-- Bytes a register list moves: one for each of bits 0..3, two for each of bits 4..7 (41_load_store_transfer.md
R172). -/
def listBytes (list : Byte) : Nat :=
  let bit (k n : Nat) : Nat := if list.getLsbD k then n else 0
  bit 0 1 + bit 1 1 + bit 2 1 + bit 3 1 + bit 4 2 + bit 5 2 + bit 6 2 + bit 7 2

/-- The cycle count of an instruction; RTI adds its own when it pulls the full frame (70_reset_and_hazards.md
R540). -/
def cycles : Instr → Nat
  | .lda o | .ldb o | .adda o | .addb o | .adca o | .adcb o | .suba o | .subb o | .sbca o
  | .sbcb o | .cmpa o | .cmpb o | .anda o | .andb o | .ora o | .orb o | .eora o | .eorb o
  | .bita o | .bitb o => src8Cycles 2 4 4 5 o
  | .ldd o | .ldx o | .ldu o => src16Cycles 3 5 5 6 o
  | .ldy o | .lds o | .addd o | .subd o | .cmpx o => src16Cycles 4 6 6 7 o
  | .sta m | .stb m => memCycles 4 4 5 m
  | .std m | .stx m | .stu m => memCycles 5 5 6 m
  | .sty m | .sts m | .neg m | .inc m | .dec m | .tst m | .clr m | .com m | .asl m
  | .asr m | .lsr m | .rol m | .ror m => memCycles 6 6 7 m
  | .leax ix | .leay ix | .leas ix | .leau ix => 4 + indexedCycles ix
  | .tfr _ _ => 6
  | .exg _ _ => 8
  | .pshs list | .puls list | .pshu list | .pulu list => 5 + listBytes list
  | .cmpd o | .cmpy o | .cmpu o | .cmps o => src16Cycles 5 7 7 8 o
  | .nega | .negb | .inca | .incb | .deca | .decb | .tsta | .tstb | .clra | .clrb | .daa
  | .sex | .coma | .comb | .asla | .aslb | .asra | .asrb | .lsra | .lsrb | .rola | .rolb
  | .rora | .rorb | .nop => 2
  | .mul => 11
  | .abx => 3
  | .andcc _ | .orcc _ => 3
  | .bra _ | .brn _ | .bhi _ | .bls _ | .bcc _ | .bcs _ | .bne _ | .beq _ | .bvc _
  | .bvs _ | .bpl _ | .bmi _ | .bge _ | .blt _ | .bgt _ | .ble _ => 3
  | .lbra _ | .lbrn _ | .lbhi _ | .lbls _ | .lbcc _ | .lbcs _ | .lbne _ | .lbeq _
  | .lbvc _ | .lbvs _ | .lbpl _ | .lbmi _ | .lbge _ | .lblt _ | .lbgt _ | .lble _ => 5
  | .jmp m => memCycles 3 3 4 m
  | .jsr m => memCycles 7 7 8 m
  | .bsr _ => 7
  | .lbsr _ => 9
  | .rts => 5
  | .swi => 19
  | .swi2 | .swi3 => 20
  | .rti => 6
  | .cwai _ => 20
  | .sync => 4

end Sys2Proof.Machine
end

