-- ==== Sys2Proof/Machine/Fetch.lean ====
section
/-! DEFINITION. Fetch, decode and execute of one instruction: step 5 of 60_exceptions.md R460. -/

namespace Sys2Proof.Machine

/-- `Fetch8()` (00_scope.md R7): an ordinary fabric read at PC (20_memory.md R70), then PC moves on. -/
def fetch8 (s : State) : Byte × State :=
  let p := read8 s.cpu.pc s
  (p.1, p.2.setPC (p.2.cpu.pc + 1))

/-- What a fetch ends in, with the bytes fetched and the state after them. -/
inductive Fetched where
  | instr (i : Instr) (bytes : Nat) (s : State)
  | rejected (cause : ExcCause) (bytes : Nat) (s : State)
  deriving DecidableEq, Repr

/-- The decoder run on the instruction stream: it asks for exactly the bytes of the instruction (30_encoding.md R93);
`n` bytes have been fetched so far. -/
def fetchParse : Parse Instr → Nat → State → Fetched
  | .done i, n, s => .instr i n s
  | .reject c, n, s => .rejected c n s
  | .need k, n, s => fetchParse (k (fetch8 s).1) (n + 1) (fetch8 s).2

/-- `last_pc <- PC` (60_exceptions.md R460). -/
def notePc (s : State) : State := { s with dbg := { s.dbg with lastPc := s.cpu.pc } }

/-- The debug state of the instruction about to execute (10_state.md R21), and EXEC, which only SYNC and CWAI change
again (60_exceptions.md R469, log 24). -/
def noteInstr (i : Instr) (bytes : Nat) (s : State) : State :=
  ({ s with dbg := { s.dbg with lastBytes := bytes, lastCycles := cycles i } }).setRunState .exec

/-- Fetch and execute one instruction (60_exceptions.md R460, step 5). -/
def executeNext (s : State) : Result :=
  match fetchParse parseInstr 0 (notePc s) with
  | .instr i n t => exec i (noteInstr i n t)
  | .rejected c n t => .next (raiseException c n t)

end Sys2Proof.Machine
end

