-- ==== Sys2Proof/Machine/Sequence.lean ====
section
/-! DEFINITION. What a step does before and around the execution of an instruction: reset, halt, the sampling of the
interrupts, the waits (60_exceptions.md R460..R471). -/

namespace Sys2Proof.Machine

/-- The reset sequence (60_exceptions.md R462). The vector is read through the fabric. -/
def resetSequence (s : State) : State :=
  let t := (s.setDP 0).setCC { s.cpu.cc with f := true, i := true }
  let u := { t with ctl := { t.ctl with nmiArmed := false, cwaiStacked := false } }
  (loadVector 0xFFFE u).setRunState .reset

/-- A sampled halt; it ends a wait (60_exceptions.md R461). -/
def haltSequence (s : State) : State := (s.setCwaiStacked false).setRunState .halted

/-- The interrupt to enter: the first eligible of NMI, FIRQ, IRQ (60_exceptions.md R463). -/
def pendingInterrupt (s : State) : Option Interrupt :=
  if s.ctl.nmiArmed ∧ s.ctl.nmiLatch then some .nmi
  else if s.cpu.cc.f = false ∧ s.ctl.firqIn then some .firq
  else if s.cpu.cc.i = false ∧ s.ctl.irqIn then some .irq
  else none

/-- A line is asserted, masked or not (60_exceptions.md R468 (b)). -/
def lineAsserted (s : State) : Bool := s.ctl.irqIn || s.ctl.firqIn || s.ctl.nmiLatch

/-- A wait that no interrupt ends goes on with the next instruction: SYNC on any asserted line, CWAI never
(60_exceptions.md R468, 92_eei_decisions.md D10). -/
def wakes (s : State) : Bool := (!s.ctl.cwaiStacked || Config.cwaiWakeOnMasked) && lineAsserted s

/-- Steps 3 to 5: an interrupt and the first instruction of its handler (60_exceptions.md R464), a wait, or the next
instruction. -/
def runStep (s : State) : Result :=
  match pendingInterrupt s with
  | some k => executeNext (enterInterrupt k s)
  | none =>
    if s.ctl.runState = .sync then
      if wakes s then executeNext (s.setRunState .exec) else .next s
    else executeNext s

/-- Steps 0 to 5 in order (60_exceptions.md R460, R471). -/
def stepOnce (s : State) : Result :=
  if s.ctl.runState = .exception ∧ s.ctl.resetIn = false then .next s
  else if s.ctl.resetIn then .next (resetSequence s)
  else if s.ctl.haltIn then .next (haltSequence s)
  else runStep s

/-! ## Placing an instruction where the next step fetches it -/

/-- Bytes placed in the cells from `a` on, with no callback. -/
def placeBytes : List Byte → Word → State → State
  | [], _, s => s
  | b :: bs, a, s => placeBytes bs (a + 1) (s.setCell a b)

/-- The state made ready to fetch: no reset, no halt, no interrupt to enter first, no wait and no EXCEPTION. -/
def readyToFetch (s : State) : State :=
  let clear := (pendingInterrupt s).isSome
  let waits := s.ctl.runState = .sync ∨ s.ctl.runState = .exception
  { s with ctl :=
    { s.ctl with
      resetIn := false
      haltIn := false
      nmiLatch := s.ctl.nmiLatch && !clear
      firqIn := s.ctl.firqIn && !clear
      irqIn := s.ctl.irqIn && !clear
      cwaiStacked := false
      runState := if waits then .exec else s.ctl.runState } }

/-- The five cells from `a` on have no callback. -/
def plainSpan (a : Word) : Bool := !isIo a && !isIo (a + 1) && !isIo (a + 2) && !isIo (a + 3) && !isIo (a + 4)

/-- The state with these bytes where the next step fetches. A PC whose five cells include an IO cell cannot hold an
instruction there; PC then moves to 0. -/
def placeForFetch (bs : List Byte) (s : State) : State :=
  let t := readyToFetch s
  let u := if plainSpan t.cpu.pc then t else t.setPC 0
  placeBytes bs u.cpu.pc u

end Sys2Proof.Machine
end

