-- ==== Sys2Proof/Machine/Step.lean ====
section
/-! DEFINITION. The step of the machine, and the placing of an instruction for it. -/

namespace Sys2Proof.Machine

/-- `step()`, the only forward-progress primitive (60_exceptions.md R460). -/
def step (s : State) : Host.Outcome State Fault Refusal := stepOnce s

/-- `s` with the instruction of the word `w` (numbered as spec/opcode_table.json numbers bits) where `step` fetches
its next instruction: it stands for the load of a program from outside the machine (log 15). -/
def State.withFetchWord (s : State) (nbits w : Nat) : State := placeForFetch (tableBytes nbits (w % 2 ^ nbits)) s

end Sys2Proof.Machine
end

