-- ==== Sys2Proof/Machine/Mnemonics.lean ====
section
/-! DEFINITION. The mnemonics of spec/opcode_table.json, which `mnemonic_at` answers (60_exceptions.md R492). -/

namespace Sys2Proof.Machine

/-- The mnemonic of an instruction (30_encoding.md R94..R96). -/
def mnemonic : Instr → String
  | .lda _ => "LDA"
  | .ldb _ => "LDB"
  | .ldd _ => "LDD"
  | .ldx _ => "LDX"
  | .ldy _ => "LDY"
  | .ldu _ => "LDU"
  | .lds _ => "LDS"
  | .sta _ => "STA"
  | .stb _ => "STB"
  | .std _ => "STD"
  | .stx _ => "STX"
  | .sty _ => "STY"
  | .stu _ => "STU"
  | .sts _ => "STS"
  | .leax _ => "LEAX"
  | .leay _ => "LEAY"
  | .leas _ => "LEAS"
  | .leau _ => "LEAU"
  | .tfr _ _ => "TFR"
  | .exg _ _ => "EXG"
  | .pshs _ => "PSHS"
  | .puls _ => "PULS"
  | .pshu _ => "PSHU"
  | .pulu _ => "PULU"
  | .adda _ => "ADDA"
  | .addb _ => "ADDB"
  | .addd _ => "ADDD"
  | .adca _ => "ADCA"
  | .adcb _ => "ADCB"
  | .suba _ => "SUBA"
  | .subb _ => "SUBB"
  | .subd _ => "SUBD"
  | .sbca _ => "SBCA"
  | .sbcb _ => "SBCB"
  | .cmpa _ => "CMPA"
  | .cmpb _ => "CMPB"
  | .cmpd _ => "CMPD"
  | .cmpx _ => "CMPX"
  | .cmpy _ => "CMPY"
  | .cmpu _ => "CMPU"
  | .cmps _ => "CMPS"
  | .nega => "NEGA"
  | .negb => "NEGB"
  | .neg _ => "NEG"
  | .inca => "INCA"
  | .incb => "INCB"
  | .inc _ => "INC"
  | .deca => "DECA"
  | .decb => "DECB"
  | .dec _ => "DEC"
  | .tsta => "TSTA"
  | .tstb => "TSTB"
  | .tst _ => "TST"
  | .clra => "CLRA"
  | .clrb => "CLRB"
  | .clr _ => "CLR"
  | .mul => "MUL"
  | .daa => "DAA"
  | .sex => "SEX"
  | .abx => "ABX"
  | .anda _ => "ANDA"
  | .andb _ => "ANDB"
  | .ora _ => "ORA"
  | .orb _ => "ORB"
  | .eora _ => "EORA"
  | .eorb _ => "EORB"
  | .bita _ => "BITA"
  | .bitb _ => "BITB"
  | .coma => "COMA"
  | .comb => "COMB"
  | .com _ => "COM"
  | .andcc _ => "ANDCC"
  | .orcc _ => "ORCC"
  | .asla => "ASLA"
  | .aslb => "ASLB"
  | .asl _ => "ASL"
  | .asra => "ASRA"
  | .asrb => "ASRB"
  | .asr _ => "ASR"
  | .lsra => "LSRA"
  | .lsrb => "LSRB"
  | .lsr _ => "LSR"
  | .rola => "ROLA"
  | .rolb => "ROLB"
  | .rol _ => "ROL"
  | .rora => "RORA"
  | .rorb => "RORB"
  | .ror _ => "ROR"
  | .bra _ => "BRA"
  | .brn _ => "BRN"
  | .bhi _ => "BHI"
  | .bls _ => "BLS"
  | .bcc _ => "BCC"
  | .bcs _ => "BCS"
  | .bne _ => "BNE"
  | .beq _ => "BEQ"
  | .bvc _ => "BVC"
  | .bvs _ => "BVS"
  | .bpl _ => "BPL"
  | .bmi _ => "BMI"
  | .bge _ => "BGE"
  | .blt _ => "BLT"
  | .bgt _ => "BGT"
  | .ble _ => "BLE"
  | .lbra _ => "LBRA"
  | .lbrn _ => "LBRN"
  | .lbhi _ => "LBHI"
  | .lbls _ => "LBLS"
  | .lbcc _ => "LBCC"
  | .lbcs _ => "LBCS"
  | .lbne _ => "LBNE"
  | .lbeq _ => "LBEQ"
  | .lbvc _ => "LBVC"
  | .lbvs _ => "LBVS"
  | .lbpl _ => "LBPL"
  | .lbmi _ => "LBMI"
  | .lbge _ => "LBGE"
  | .lblt _ => "LBLT"
  | .lbgt _ => "LBGT"
  | .lble _ => "LBLE"
  | .jmp _ => "JMP"
  | .jsr _ => "JSR"
  | .bsr _ => "BSR"
  | .lbsr _ => "LBSR"
  | .rts => "RTS"
  | .nop => "NOP"
  | .swi => "SWI"
  | .swi2 => "SWI2"
  | .swi3 => "SWI3"
  | .rti => "RTI"
  | .cwai _ => "CWAI"
  | .sync => "SYNC"

end Sys2Proof.Machine
end

