-- ==== Sys2Proof/Machine/HostCalls.lean ====
section
/-! DEFINITION. The calls of the host (70_reset_and_hazards.md R520..R525): all act between two steps. `step`,
`vsyncIrq` and `functionKey` stand with the parts they belong to. -/

namespace Sys2Proof.Machine

/-! ## Latches and cold start -/

/-- `init(start_addr)`: the CPU's cold start (10_state.md R16, 70_reset_and_hazards.md R511). -/
def hostInit (startAddr : Word) (s : State) : State :=
  { s with
    cpu := (State.coldStart startAddr).cpu
    ctl := (State.coldStart startAddr).ctl
    dbg := (State.coldStart startAddr).dbg }

/-- `halt(b)`. -/
def hostHalt (b : Bool) (s : State) : State := { s with ctl := { s.ctl with haltIn := b } }

/-- `reset(b)`. -/
def hostReset (b : Bool) (s : State) : State := { s with ctl := { s.ctl with resetIn := b } }

/-- `irq(b)`. -/
def hostIrq (b : Bool) (s : State) : State := s.setIrq b

/-- `firq(b)`. -/
def hostFirq (b : Bool) (s : State) : State := { s with ctl := { s.ctl with firqIn := b } }

/-- `nmi_trigger()`: an edge latch (10_state.md R18). -/
def hostNmiTrigger (s : State) : State := { s with ctl := { s.ctl with nmiLatch := true } }

/-! ## Debug -/

/-- What `get_state(out)` copies (10_state.md R21). -/
structure DebugView where
  cpu : Regs
  runState : RunState
  lastPc : Word
  lastBytes : Nat
  lastCycles : Nat
  deriving DecidableEq, Repr

/-- `get_state(out)` (60_exceptions.md R492). -/
def getState (s : State) : DebugView := ⟨s.cpu, s.ctl.runState, s.dbg.lastPc, s.dbg.lastBytes, s.dbg.lastCycles⟩

/-- `mnemonic_at(addr)` (60_exceptions.md R492): the opcode, with its prefix, looked up in the cells' data, no
callback; `none` marks an illegal opcode. 0x88 stands for the byte after the opcode: a legal indexed postbyte, a
legal register pair and a legal operand byte, so that the opcode alone decides. -/
def mnemonicAt (a : Word) (s : State) : Option String :=
  let op := s.cell a
  let opcode := if op = 0x10 ∨ op = 0x11 then [op, s.cell (a + 1)] else [op]
  match decode (opcode ++ [0x88, 0, 0]) with
  | .instr i _ => some (mnemonic i)
  | .rejected _ => none
  | .truncated => none

/-! ## Memory -/

/-- The cells' data from `a` on replaced, no callback and whatever the attribute. -/
def loadBytes : Nat → List Byte → Memory → Memory
  | _, [], m => m
  | a, b :: bs, m => loadBytes (a + 1) bs (Memory.write m a b)

/-- `Load(start, bytes)` (20_memory.md R55): past the top it fails and copies nothing. -/
def hostLoad (start : Nat) (bytes : List Byte) (s : State) : Result :=
  if start + bytes.length ≤ 65536 then .next { s with mem := loadBytes start bytes s.mem } else .fault .addrRange

/-- What a call answers that changes the attribute map. -/
abbrev MapResult := Host.Outcome AttrMap Fault Refusal

/-- One attribute for a whole span, in place of what the span had; a span past 0xFFFF fails with ADDR_RANGE and changes
nothing (20_memory.md R54, R67). -/
def defineSpan (sp : Span) (m : AttrMap) : MapResult := if sp.last < 65536 then .next (sp :: m) else .fault .addrRange

/-- `define_rom(lo..hi)` (20_memory.md R54). -/
def defineRom (first last : Nat) (m : AttrMap) : MapResult := defineSpan ⟨first, last, .rom⟩ m

/-- `define_io(lo..hi, cb)` (20_memory.md R54). -/
def defineIo (first last : Nat) (p : IoPort) (m : AttrMap) : MapResult := defineSpan ⟨first, last, .io p⟩ m

/-- The fabric's `read` called by the host: 0 for an address out of range (20_memory.md R67). -/
def hostRead (a : Nat) (s : State) : Byte × State := if a < 65536 then read8 (BitVec.ofNat 16 a) s else (0, s)

/-- The fabric's `write` called by the host: discarded for an address out of range (20_memory.md R67). -/
def hostWrite (a : Nat) (v : Byte) (s : State) : State := if a < 65536 then write8 (BitVec.ofNat 16 a) v s else s

/-! ## Devices -/

/-- `render()` (47_dev_vdg.md R377): the framebuffer painted, or the stop of R385. -/
def render (s : State) : Result :=
  match painter s with
  | some p => .next (paint p (negotiate s))
  | none => .fault .videoFault

/-- `loader_mount_cas(file_ref)`: registers the file a motor-on takes over (49_dev_pia1.md R438, R440). -/
def loaderMountCas (file : Option (List Byte)) (s : State) : State :=
  { s with host := { s.host with mountedCas := file } }

/-- A key event arrives from the keyboard (70_reset_and_hazards.md R521). -/
def hostKey (e : Byte) (s : State) : State :=
  { s with host := { s.host with keyEvents := s.host.keyEvents ++ [e] } }

/-- The joystick comparator's next level, and the right fire button's (70_reset_and_hazards.md R521). -/
def hostJoystick (level pressed : Bool) (s : State) : State :=
  { s with host :=
    { s.host with
      joystkComp := s.host.joystkComp ++ [level]
      rjoystkButton := s.host.rjoystkButton ++ [pressed] } }

/-! ## Boot and the main loop -/

/-- A call after another; a failure ends the sequence. -/
def andThen {S T : Type} (r : Host.Outcome S Fault Refusal) (f : S → Host.Outcome T Fault Refusal) :
    Host.Outcome T Fault Refusal :=
  match r with
  | .next s => f s
  | .fault e => .fault e
  | .refused e => .refused e

/-- Steps 3 to 5 of the boot sequence (70_reset_and_hazards.md R514): from a map that is all RAM, one call per callback
of 20_memory.md R63. They leave `bootMap`. -/
def bootDefines : MapResult :=
  [((0xFF00, 0xFF00), IoPort.pia0Pa), ((0xFF01, 0xFF01), .pia0Cra), ((0xFF02, 0xFF02), .pia0Pb),
    ((0xFF03, 0xFF03), .pia0Crb), ((0xFF20, 0xFF20), .pia1Pa), ((0xFF21, 0xFF21), .pia1Cra),
    ((0xFF22, 0xFF22), .pia1Pb), ((0xFF23, 0xFF23), .pia1Crb), ((0xFFC0, 0xFFDF), .samCtl),
    ((0xFFF2, 0xFFFF), .samVec)].foldl (fun r c => andThen r (defineIo c.1.1 c.1.2 c.2)) (defineRom 0x8000 0xFEFF [])

/-- Step 6: the PIAs' control registers are 0 and the framebuffer is 256×192 (70_reset_and_hazards.md R511, R514); the
other devices have their cold values already. -/
def coldDevices (s : State) : State :=
  fbInit 256 192 ((((s.setCell 0xFF01 0).setCell 0xFF03 0).setCell 0xFF21 0).setCell 0xFF23 0)

/-- Steps 1 to 7 of the boot sequence (70_reset_and_hazards.md R514): RAM_INIT is `ram`, ROM_IMAGE is `rom`. The map
`bootDefines` leaves is the machine's (log 18). -/
def boot (ram : Memory) (rom : List Byte) (startAddr : Word) : Result :=
  andThen (hostLoad 0x8000 rom { State.coldStart startAddr with mem := ram }) fun s =>
  andThen bootDefines fun _ => .next (hostInit startAddr (coldDevices s))

/-- The reset button, sampled by the main loop. -/
inductive Button where
  | released | short | long
  deriving DecidableEq, Repr

/-- The reset-button lines of the loop, one three-way choice (70_reset_and_hazards.md R522, R525, log 27). -/
def resetButton (b : Button) (s : State) : State :=
  match b with
  | .released => hostReset false s
  | .short => hostReset true s
  | .long => hostReset true (hostWrite 0x0071 0 s)

/-- The calls by which the external loader may change the machine (70_reset_and_hazards.md R523). -/
inductive LoaderCall where
  | load (start : Nat) (bytes : List Byte)
  | mountCas (file : Option (List Byte))
  deriving DecidableEq, Repr

/-- One call of the loader; a `Load` that fails copies nothing (20_memory.md R55). -/
def loaderCall (c : LoaderCall) (s : State) : State :=
  match c with
  | .load start bytes =>
    match hostLoad start bytes s with
    | .next t => t
    | .fault _ => s
    | .refused _ => s
  | .mountCas file => loaderMountCas file s

/-- `run_external_loader()` (70_reset_and_hazards.md R523): the calls it makes, in order; none where no SD card is
present. -/
def runLoader (calls : List LoaderCall) (s : State) : State := calls.foldl (fun t c => loaderCall c t) s

/-- The function-key line: F1 runs the external loader (70_reset_and_hazards.md R522, R523). -/
def loaderEscape (calls : List LoaderCall) (s : State) : State :=
  let p := functionKey s
  if p.1 = 1 then runLoader calls p.2 else p.2

/-- `VSYNC_TICKS` (70_reset_and_hazards.md R524): at least one. -/
def vsyncTicks : Nat := Config.vsyncTicksLessOne + 1

/-- Every `VSYNC_TICKS`-th tick: render, then the field sync (70_reset_and_hazards.md R522); `count` ticks have gone
before. -/
def fieldSync (count : Nat) (s : State) : Result :=
  if (count + 1) % vsyncTicks = 0 then andThen (render s) fun t => .next (vsyncIrq t) else .next s

/-- The loop halts on this state (70_reset_and_hazards.md R522): after a step that returns EXCEPTION it "may display a
diagnostic and halt"; whether it does is free (log 27). -/
def loopHalts (s : State) : Bool := Config.loopHaltsOnException && s.ctl.runState == .exception

/-- One tick of the main loop (70_reset_and_hazards.md R522). A halted loop takes no host action, so that every later
tick leaves the state as it is: a step in EXCEPTION changes nothing (60_exceptions.md R470). -/
def mainLoopTick (b : Button) (calls : List LoaderCall) (count : Nat) (s : State) : Result :=
  andThen (step s) fun t =>
    if loopHalts t then .next t else fieldSync count (loaderEscape calls (resetButton b t))

end Sys2Proof.Machine
end

