-- ==== Sys2Proof/Safety.lean ====
section
/-! DEFINITION. The terms the claims use: the invariant every step keeps, and what two states agree on. -/

namespace Sys2Proof.Machine

/-! ## The invariant -/

/-- The VDG holds what the SAM has pushed, the base of its offset, and the composed mode (46_dev_sam.md R351,
47_dev_vdg.md R370, R372). -/
abbrev VdgCoherent (sam : BitVec 16) (v : Vdg) : Prop :=
  v.samVideoMode = sam.extractLsb' 0 3 ∧ v.displayOffset = sam.extractLsb' 3 7 ∧
  v.displayBase = displayBaseOf v.displayOffset ∧ v.mode = compose v.samVideoMode v.piaVideoMode

/-- The cassette generator is inside a bit cell of an octet, or between two octets (49_dev_pia1.md R433); the read
position is within the file (R435). -/
abbrev CassetteSound (p : Pia1) : Prop :=
  (p.casThreshold = 4 ∨ p.casThreshold = 20) ∧ p.casPhase < 2 * p.casThreshold ∧ p.casBitsLeft ≤ 9 ∧
  (p.casBitsLeft = 0 → p.casPhase = 0) ∧ p.casPos ≤ (p.casFile.getD []).length

/-- What holds of every state a run reaches from reset. -/
abbrev Inv (s : State) : Prop :=
  s.mem.wf = true ∧
  (s.ctl.cwaiStacked = true → s.ctl.runState = .sync) ∧
  (s.ctl.runState = .exception → s.dbg.excCause ≠ none) ∧
  VdgCoherent s.sam s.vdg ∧
  s.pia0.fkey ≤ 10 ∧
  CassetteSound s.pia1

/-! ## Agreement of states -/

/-- Every cell without a callback holds what it held, but for those of `but`. -/
abbrev PlainCellsSameBut (but : Word → Prop) (s t : State) : Prop :=
  ∀ a, isIo a = false → ¬ but a → t.cell a = s.cell a

/-- Every cell without a callback holds what it held. -/
abbrev PlainCellsSame (s t : State) : Prop := ∀ a, isIo a = false → t.cell a = s.cell a

/-- The address is one of the `n` from `a` on, wrapping at the top. -/
abbrev Within (a : Word) (n : Nat) (b : Word) : Prop := ∃ j, j < n ∧ b = a + BitVec.ofNat 16 j

/-- The `n` cells from `a` on have no callback. -/
abbrev PlainSpan (a : Word) (n : Nat) : Prop := ∀ j, j < n → isIo (a + BitVec.ofNat 16 j) = false

/-- Those of the bytes from `a` on that fall into RAM are these, one after the other. -/
abbrev RamHolds (t : State) (a : Word) (bytes : List Byte) : Prop :=
  ∀ j b, bytes[j]? = some b → cellKind (a + BitVec.ofNat 16 j) = .ram → t.cell (a + BitVec.ofNat 16 j) = b

/-- The devices, the host side, the outputs and the drawn values are the same. -/
abbrev SameDevices (s t : State) : Prop :=
  t.sam = s.sam ∧ t.vdg = s.vdg ∧ t.pia0 = s.pia0 ∧ t.pia1 = s.pia1 ∧ t.host = s.host ∧ t.draws = s.draws ∧
  t.out = s.out

/-- E, F and I are the same. -/
abbrev SameMasks (c d : CC) : Prop := d.e = c.e ∧ d.f = c.f ∧ d.i = c.i

/-- No latch stops or interrupts the machine and it is not waiting: the next step fetches (60_exceptions.md R460). -/
abbrev ReadyToRun (s : State) : Prop :=
  s.ctl.resetIn = false ∧ s.ctl.haltIn = false ∧ s.ctl.runState ≠ .exception ∧ s.ctl.runState ≠ .sync ∧
  ¬ (s.ctl.nmiArmed = true ∧ s.ctl.nmiLatch = true) ∧ ¬ (s.cpu.cc.f = false ∧ s.ctl.firqIn = true) ∧
  ¬ (s.cpu.cc.i = false ∧ s.ctl.irqIn = true)

/-- The bytes from `a` on are these, in cells without a callback. -/
def BytesAt (s : State) : Word → List Byte → Prop
  | _, [] => True
  | a, b :: bs => isIo a = false ∧ s.cell a = b ∧ BytesAt s (a + 1) bs

/-! ## Operands -/

/-- The state after the register side effect of an operand's addressing mode (40_addressing_modes.md R130..R133). -/
def afterAuto (m : Mem) (s : State) : State :=
  match m with
  | .indexed (.sub r _ f) => autoUpdate r f s
  | .indexed (.off5 _ _) => s
  | .direct _ => s
  | .extended _ => s

/-- The pointer an indirect form reads lies in cells without a callback; the other forms read none
(40_addressing_modes.md R143). -/
def PointerPlain (m : Mem) (s : State) : Prop :=
  match m with
  | .indexed (.sub r true f) => isIo (formAddress r f s) = false ∧ isIo (formAddress r f s + 1) = false
  | .indexed (.sub _ false _) => True
  | .indexed (.off5 _ _) => True
  | .direct _ => True
  | .extended _ => True

/-! ## Results -/

/-- N and Z of an 8-bit result, as a signed number. -/
abbrev SignZero8 (r : Byte) (d : CC) : Prop := d.n = decide (r.toInt < 0) ∧ d.z = decide (r.toNat = 0)

/-- N and Z of a 16-bit result, as a signed number. -/
abbrev SignZero16 (w : Word) (d : CC) : Prop := d.n = decide (w.toInt < 0) ∧ d.z = decide (w.toNat = 0)

/-- What a single-operand instruction does: from the old value and flags to the new ones. -/
abbrev UnarySpec := Byte → Byte → CC → CC → Prop

/-- NEG (42_arithmetic.md R210); H is free. -/
def NegSpec : UnarySpec := fun v r c d =>
  r.toNat = (256 - v.toNat) % 256 ∧ SignZero8 r d ∧ d.v = decide (v.toNat = 128) ∧ d.c = decide (v.toNat ≠ 0) ∧
  SameMasks c d

/-- INC (42_arithmetic.md R213). -/
def IncSpec : UnarySpec := fun v r c d =>
  r.toNat = (v.toNat + 1) % 256 ∧ SignZero8 r d ∧ d.v = decide (v.toNat = 127) ∧ d.c = c.c ∧ d.h = c.h ∧
  SameMasks c d

/-- DEC (42_arithmetic.md R216). -/
def DecSpec : UnarySpec := fun v r c d =>
  r.toNat = (v.toNat + 255) % 256 ∧ SignZero8 r d ∧ d.v = decide (v.toNat = 128) ∧ d.c = c.c ∧ d.h = c.h ∧
  SameMasks c d

/-- TST (42_arithmetic.md R219). -/
def TstSpec : UnarySpec := fun v r c d =>
  r = v ∧ SignZero8 v d ∧ d.v = false ∧ d.c = c.c ∧ d.h = c.h ∧ SameMasks c d

/-- CLR (42_arithmetic.md R222). -/
def ClrSpec : UnarySpec := fun _ r c d =>
  r = 0 ∧ d.n = false ∧ d.z = true ∧ d.v = false ∧ d.c = false ∧ d.h = c.h ∧ SameMasks c d

/-- COM (43_logic_shift.md R248). -/
def ComSpec : UnarySpec := fun v r c d =>
  r.toNat = 255 - v.toNat ∧ SignZero8 r d ∧ d.v = false ∧ d.c = true ∧ d.h = c.h ∧ SameMasks c d

/-- ASL (43_logic_shift.md R253); V from the change of sign, H free. -/
def AslSpec : UnarySpec := fun v r c d =>
  r.toNat = 2 * v.toNat % 256 ∧ SignZero8 r d ∧ d.c = decide (128 ≤ v.toNat) ∧
  d.v = decide (2 * v.toInt < -128 ∨ 127 < 2 * v.toInt) ∧ SameMasks c d

/-- ASR (43_logic_shift.md R256): half of the signed value, rounded down; V unchanged, H free. -/
def AsrSpec : UnarySpec := fun v r c d =>
  r.toInt = v.toInt / 2 ∧ SignZero8 r d ∧ d.c = decide (v.toNat % 2 = 1) ∧ d.v = c.v ∧ SameMasks c d

/-- LSR (43_logic_shift.md R259). -/
def LsrSpec : UnarySpec := fun v r c d =>
  r.toNat = v.toNat / 2 ∧ SignZero8 r d ∧ d.n = false ∧ d.c = decide (v.toNat % 2 = 1) ∧ d.v = c.v ∧ d.h = c.h ∧
  SameMasks c d

/-- ROL (43_logic_shift.md R262). -/
def RolSpec : UnarySpec := fun v r c d =>
  r.toNat = (2 * v.toNat + c.c.toNat) % 256 ∧ SignZero8 r d ∧ d.c = decide (128 ≤ v.toNat) ∧
  d.v = decide (¬ (128 ≤ v.toNat ↔ 64 ≤ v.toNat % 128)) ∧ d.h = c.h ∧ SameMasks c d

/-- ROR (43_logic_shift.md R265). -/
def RorSpec : UnarySpec := fun v r c d =>
  r.toNat = v.toNat / 2 + 128 * c.c.toNat ∧ SignZero8 r d ∧ d.c = decide (v.toNat % 2 = 1) ∧ d.v = c.v ∧
  d.h = c.h ∧ SameMasks c d

/-- What an instruction does with an accumulator and an operand: from the accumulator, the operand and the old flags
to the result and the new flags. -/
abbrev BinarySpec := Byte → Byte → Byte → CC → CC → Prop

/-- The sum with a carry in (42_arithmetic.md R190): H from bit 3, V out of the signed range, C out of the unsigned
one. -/
def SumSpec (cin : Nat) : BinarySpec := fun a m r c d =>
  r.toNat = (a.toNat + m.toNat + cin) % 256 ∧ SignZero8 r d ∧
  d.h = decide (16 ≤ a.toNat % 16 + m.toNat % 16 + cin) ∧
  d.v = decide (a.toInt + m.toInt + cin < -128 ∨ 127 < a.toInt + m.toInt + cin) ∧
  d.c = decide (256 ≤ a.toNat + m.toNat + cin) ∧ SameMasks c d

/-- The difference with a borrow in (42_arithmetic.md R191): V out of the signed range, C the borrow, H free. -/
def DifferenceSpec (bin : Nat) : BinarySpec := fun a m r c d =>
  r.toNat = (a.toNat + 256 - m.toNat + 256 - bin) % 256 ∧ SignZero8 r d ∧
  d.v = decide (a.toInt - m.toInt - bin < -128 ∨ 127 < a.toInt - m.toInt - bin) ∧
  d.c = decide (a.toNat < m.toNat + bin) ∧ SameMasks c d

/-- A bitwise operation (43_logic_shift.md R240..R247): bit by bit, V = 0, H and C unchanged. -/
def BitwiseSpec (f : Bool → Bool → Bool) : BinarySpec := fun a m r c d =>
  (∀ k, k < 8 → r.getLsbD k = f (a.getLsbD k) (m.getLsbD k)) ∧ SignZero8 r d ∧ d.v = false ∧ d.c = c.c ∧
  d.h = c.h ∧ SameMasks c d

/-! ## Stacked bytes -/

/-- The bytes a register list stacks, in ascending addresses from the final stack pointer
(41_load_store_transfer.md R172). -/
def listImage (k : Stack) (list : Byte) (s : State) : List Byte :=
  (if list.getLsbD 0 then [packCC s.cpu.cc] else []) ++ (if list.getLsbD 1 then [s.cpu.a] else []) ++
  (if list.getLsbD 2 then [s.cpu.b] else []) ++ (if list.getLsbD 3 then [s.cpu.dp] else []) ++
  (if list.getLsbD 4 then [hi s.cpu.x, lo s.cpu.x] else []) ++
  (if list.getLsbD 5 then [hi s.cpu.y, lo s.cpu.y] else []) ++
  (if list.getLsbD 6 then [hi (s.sp k.other), lo (s.sp k.other)] else []) ++
  (if list.getLsbD 7 then [hi s.cpu.pc, lo s.cpu.pc] else [])

/-- The full frame with this E, in ascending addresses (60_exceptions.md R467). -/
def fullFrame (s : State) : List Byte :=
  [packCC { s.cpu.cc with e := true }, s.cpu.a, s.cpu.b, s.cpu.dp, hi s.cpu.x, lo s.cpu.x, hi s.cpu.y,
    lo s.cpu.y, hi s.cpu.u, lo s.cpu.u, hi s.cpu.pc, lo s.cpu.pc]

/-- The short frame of FIRQ (60_exceptions.md R467). -/
def shortFrame (s : State) : List Byte :=
  [packCC { s.cpu.cc with e := false }, hi s.cpu.pc, lo s.cpu.pc]

/-- The word stored at an address and the next, high byte first. -/
def State.word (s : State) (a : Word) : Word := join (s.cell a) (s.cell (a + 1))

/-- How far above the stack pointer a pull finds the register of bit `n` of its list: the bytes of the lower bits. -/
def pullOffset (list : Byte) (n : Nat) : Word := BitVec.ofNat 16 (listBytes (list &&& BitVec.ofNat 8 (2 ^ n - 1)))

/-! ## The NMI -/

/-- The instructions that arm the NMI (60_exceptions.md R465). -/
def armsNmi : Instr → Bool
  | .lds _ => true
  | .leas _ => true
  | .tfr _ r2 => r2 == .s
  | .exg r1 r2 => r1 == .s || r2 == .s
  | .pulu list => list.getLsbD 6
  | _ => false

/-! ## Cassette -/

/-- `n` reads of PIA1's port A, one after the other. -/
def portReads : Nat → State → State
  | 0, s => s
  | n + 1, s => portReads n (read8 0xFF20 s).2

end Sys2Proof.Machine
end

