-- ==== Sys2Proof/Certificates/Slice0/Obligations.lean ====
section
/-! DEFINITION. The statements for the provers. Where a statement speaks of an operand, `operand8`, `operand16` and
`ea` are the model's own: what they give is stated by the statements on addressing. An instruction's meaning runs with
PC at the address after the whole instruction. -/

open Sys2Proof Sys2Proof.Machine

/-! ## Encoding -/

/-- Decoding the encoding of any well-formed instruction gives it back, whatever bytes follow (30_encoding.md
R90..R100). -/
def Obligations.DecodingTheEncodingGivesTheInstruction : Prop :=
  ∀ (i : Instr) (rest : List Byte), i.wf = true → decode (encode i ++ rest) = .instr i rest

/-- The decoder yields only well-formed instructions, the bytes it consumed are exactly their encoding, no bit is read
and dropped, and they are one to five (30_encoding.md R90..R100). -/
def Obligations.DecodedBytesAreTheEncoding : Prop :=
  ∀ (bs rest : List Byte) (i : Instr), decode bs = .instr i rest →
    i.wf = true ∧ encode i ++ rest = bs ∧ 1 ≤ (encode i).length ∧ (encode i).length ≤ 5

/-- The decoder rejects an opcode as illegal exactly when its page has no row for it (30_encoding.md R94, R95, R96,
R104): 33 opcodes of page 1, and on pages 2 and 3 all but the listed ones, a second prefix byte among them. -/
def Obligations.IllegalOpcodesAreExactly : Prop :=
  (∀ (b : Byte) (rest : List Byte), b ≠ 0x10 → b ≠ 0x11 →
    (decode (b :: rest) = .rejected .illegalOpcode ↔
      b.toNat ∈ [0x01, 0x02, 0x05, 0x0B, 0x14, 0x15, 0x18, 0x1B, 0x38, 0x3E, 0x41, 0x42, 0x45, 0x4B, 0x4E, 0x51,
        0x52, 0x55, 0x5B, 0x5E, 0x61, 0x62, 0x65, 0x6B, 0x71, 0x72, 0x75, 0x7B, 0x87, 0x8F, 0xC7, 0xCD, 0xCF])) ∧
  (∀ (b : Byte) (rest : List Byte),
    (decode (0x10 :: b :: rest) = .rejected .illegalOpcode ↔
      b.toNat ∉ [0x21, 0x22, 0x23, 0x24, 0x25, 0x26, 0x27, 0x28, 0x29, 0x2A, 0x2B, 0x2C, 0x2D, 0x2E, 0x2F, 0x3F,
        0x83, 0x8C, 0x8E, 0x93, 0x9C, 0x9E, 0x9F, 0xA3, 0xAC, 0xAE, 0xAF, 0xB3, 0xBC, 0xBE, 0xBF, 0xCE, 0xDE, 0xDF,
        0xEE, 0xEF, 0xFE, 0xFF])) ∧
  (∀ (b : Byte) (rest : List Byte),
    (decode (0x11 :: b :: rest) = .rejected .illegalOpcode ↔
      b.toNat ∉ [0x3F, 0x83, 0x8C, 0x93, 0x9C, 0xA3, 0xAC, 0xB3, 0xBC]))

/-- After each of the 56 opcodes with an indexed operand, on all three pages, the decoder rejects exactly the 36
postbytes of 30_encoding.md R105: submodes 7, 10 and 14, an indirect submode 0 or 2, a direct submode 15. After EXG
and TFR it rejects exactly the pairs with a nibble 6, 7 or 12..15. -/
def Obligations.IllegalPostbytesAreExactly : Prop :=
  (∀ op ∈ [[0x30], [0x31], [0x32], [0x33], [0x60], [0x63], [0x64], [0x66], [0x67], [0x68], [0x69], [0x6A], [0x6C],
      [0x6D], [0x6E], [0x6F], [0xA0], [0xA1], [0xA2], [0xA3], [0xA4], [0xA5], [0xA6], [0xA7], [0xA8], [0xA9],
      [0xAA], [0xAB], [0xAC], [0xAD], [0xAE], [0xAF], [0xE0], [0xE1], [0xE2], [0xE3], [0xE4], [0xE5], [0xE6],
      [0xE7], [0xE8], [0xE9], [0xEA], [0xEB], [0xEC], [0xED], [0xEE], [0xEF], [0x10, 0xA3], [0x10, 0xAC],
      [0x10, 0xAE], [0x10, 0xAF], [0x10, 0xEE], [0x10, 0xEF], [0x11, 0xA3], [0x11, 0xAC]],
    ∀ (pb : Byte) (rest : List Byte),
      decode (op ++ pb :: rest) = .rejected .unresolvableMode ↔
        128 ≤ pb.toNat ∧
        (pb.toNat % 16 ∈ [7, 10, 14] ∨ (pb.toNat % 32 ∈ [16, 18]) ∨ pb.toNat % 32 = 15)) ∧
  (∀ op ∈ [0x1E, 0x1F], ∀ (pb : Byte) (rest : List Byte),
      decode (op :: pb :: rest) = .rejected .unresolvableMode ↔
        pb.toNat / 16 ∈ [6, 7, 12, 13, 14, 15] ∨ pb.toNat % 16 ∈ [6, 7, 12, 13, 14, 15])

/-- Words written out from the spec's encodings decode to the instructions they stand for: D0's own examples and one
of every format (30_encoding.md R91, R97, R98). A sanity statement. -/
def Obligations.SpecWordsDecode : Prop :=
  decode [0x89, 0x11] = .instr (.adca (.imm 0x11)) [] ∧
  decode [0xCC, 0x80, 0x00] = .instr (.ldd (.imm 0x8000)) [] ∧
  decode [0x19] = .instr .daa [] ∧
  decode [0xA6, 0x80] = .instr (.lda (.mem (.indexed (.sub .x false .postInc1)))) [] ∧
  decode [0xA6, 0x9F, 0x30, 0x00] = .instr (.lda (.mem (.indexed (.sub .x true (.extended 0x3000))))) [] ∧
  decode [0x10, 0xA3, 0x99, 0x12, 0x34] = .instr (.cmpd (.mem (.indexed (.sub .x true (.off16 0x1234))))) [] ∧
  decode [0x97, 0x20] = .instr (.sta (.direct 0x20)) [] ∧
  decode [0xBD, 0x20, 0x00] = .instr (.jsr (.extended 0x2000)) [] ∧
  decode [0x30, 0x1F] = .instr (.leax (.off5 .x (-1))) [] ∧
  decode [0x1F, 0x14] = .instr (.tfr .x .s) [] ∧
  decode [0x34, 0x87] = .instr (.pshs 0x87) [] ∧
  decode [0x20, 0xFE] = .instr (.bra 0xFE) [] ∧
  decode [0x10, 0x22, 0x01, 0x00] = .instr (.lbhi 0x0100) [] ∧
  decode [0x11, 0x3F] = .instr .swi3 []

/-! ## The step -/

/-- When the machine is to fetch and the bytes at PC are those of a well-formed instruction, in cells without a
callback, the step runs that instruction: PC has moved past its bytes, the debug state names it, the run state is
EXEC (60_exceptions.md R460 step 5, R469; 10_state.md R13, R21). -/
def Obligations.StepRunsTheDecodedInstruction : Prop :=
  ∀ (s : State) (i : Instr), ReadyToRun s → i.wf = true → BytesAt s s.cpu.pc (encode i) →
    step s = exec i
      { s with
        cpu := { s.cpu with pc := s.cpu.pc + BitVec.ofNat 16 (encode i).length }
        ctl := { s.ctl with runState := .exec }
        dbg := { s.dbg with lastPc := s.cpu.pc, lastBytes := (encode i).length, lastCycles := cycles i } }

/-- When the bytes at PC are rejected by the decoder, the step ends in EXCEPTION with the cause and `last_pc`
recorded; every other register, the flags, all of memory and every device are as before, and PC is somewhere from the
instruction's first byte to three bytes on (60_exceptions.md R470, R472; 30_encoding.md R104, R105). That PC is no
further fixed is log 6; that the byte and cycle counts of the debug state stay too is the model's choice, log 12.
EXCEPTION is left only by a reset: without one every later step changes nothing. -/
def Obligations.RejectedInstructionEndsInException : Prop :=
  (∀ (s : State) (bs : List Byte) (c : ExcCause), ReadyToRun s → BytesAt s s.cpu.pc bs → decode bs = .rejected c →
    ∃ k, k ≤ 3 ∧
      step s = .next
        { s with
          cpu := { s.cpu with pc := s.cpu.pc + BitVec.ofNat 16 k }
          ctl := { s.ctl with runState := .exception }
          dbg := { s.dbg with lastPc := s.cpu.pc, excCause := some c }
          draws := s.draws + 1 }) ∧
  (∀ s : State, s.ctl.runState = .exception →
    (s.ctl.resetIn = false → ∀ n, Host.Core.run Sys2Proof.core n s = .next s) ∧
    (s.ctl.resetIn = true → ∃ t, step s = .next t ∧ t.ctl.runState = .reset))

/-- The reset sequence (60_exceptions.md R462): DP = 0, F = I = 1, NMI disarmed, PC the word at 0xBFFE, where the
vector window leads; every other register, flag, latch, device and byte of memory is unchanged but the two window
cells that the vector read fills. It comes before halt and interrupts, from every run state. A sampled halt touches
nothing but the run state and the mark of a CWAI wait (R461). -/
def Obligations.ResetAndHaltSequences : Prop :=
  ∀ s : State,
    (s.ctl.resetIn = true →
      ∃ t, step s = .next t ∧
        t.cpu = { s.cpu with
          dp := 0, pc := join (s.cell 0xBFFE) (s.cell 0xBFFF), cc := { s.cpu.cc with f := true, i := true } } ∧
        t.ctl = { s.ctl with nmiArmed := false, cwaiStacked := false, runState := .reset } ∧
        t.dbg = s.dbg ∧ SameDevices s t ∧
        (∀ a, a ≠ 0xFFFE → a ≠ 0xFFFF → t.cell a = s.cell a)) ∧
    (s.ctl.resetIn = false → s.ctl.runState ≠ .exception → s.ctl.haltIn = true →
      step s = .next { s with ctl := { s.ctl with runState := .halted, cwaiStacked := false } })

/-- Without reset and halt, the first eligible of NMI, FIRQ and IRQ is entered and the instruction at its handler runs
in the same step (60_exceptions.md R460, R463, R464). With none eligible: outside a wait the next instruction runs; a
SYNC wait goes on with the next instruction when a line is asserted, masked or not; otherwise, and always in a CWAI
wait, the step changes nothing (R468). That an asserted but masked line does not end a CWAI wait is the spec's default
for the switch `CWAI_WAKE_ON_MASKED`, log 17. -/
def Obligations.InterruptsByPriorityAndWaits : Prop :=
  ∀ s : State, s.ctl.resetIn = false → s.ctl.haltIn = false → s.ctl.runState ≠ .exception →
    let nmi := s.ctl.nmiArmed = true ∧ s.ctl.nmiLatch = true
    let firq := s.cpu.cc.f = false ∧ s.ctl.firqIn = true
    let irq := s.cpu.cc.i = false ∧ s.ctl.irqIn = true
    let line := s.ctl.irqIn = true ∨ s.ctl.firqIn = true ∨ s.ctl.nmiLatch = true
    (nmi → step s = executeNext (enterInterrupt .nmi s)) ∧
    (¬ nmi → firq → step s = executeNext (enterInterrupt .firq s)) ∧
    (¬ nmi → ¬ firq → irq → step s = executeNext (enterInterrupt .irq s)) ∧
    (¬ nmi → ¬ firq → ¬ irq →
      (s.ctl.runState ≠ .sync → step s = executeNext s) ∧
      (s.ctl.runState = .sync → s.ctl.cwaiStacked = false → line →
        step s = executeNext { s with ctl := { s.ctl with runState := .exec } }) ∧
      (s.ctl.runState = .sync → s.ctl.cwaiStacked = true ∨ ¬ line → step s = .next s))

/-- No step stops: whatever the state, the next state exists (20_memory.md R67, 60_exceptions.md R470, R473). -/
def Obligations.EveryStepHasANextState : Prop :=
  (∀ s : State, ∃ t, step s = .next t) ∧ (∀ (i : Instr) (s : State), ∃ t, exec i s = .next t)

/-! ## Interrupt entry and return -/

/-- The entry of every interrupt (60_exceptions.md R466): the masks it sets, the flag E, the stack pointer, PC from the
word at vector − 0x4000, the latch; A, B, DP, X, Y, U and the other flags are unchanged. A hardware interrupt that
ends a CWAI wait pushes nothing and leaves E. -/
def Obligations.InterruptEntryEffect : Prop :=
  ∀ p ∈ [(Interrupt.nmi, (0xBFFC : Word), true, true), (.firq, 0xBFF6, true, true), (.irq, 0xBFF8, false, true),
      (.swi, 0xBFFA, true, true), (.swi2, 0xBFF4, false, false), (.swi3, 0xBFF2, false, false)],
    ∀ s : State,
      let t := enterInterrupt p.1 s
      let pushes := s.ctl.cwaiStacked = false ∨ p.1 ∈ [Interrupt.swi, .swi2, .swi3]
      t.cpu.a = s.cpu.a ∧ t.cpu.b = s.cpu.b ∧ t.cpu.dp = s.cpu.dp ∧ t.cpu.x = s.cpu.x ∧ t.cpu.y = s.cpu.y ∧
      t.cpu.u = s.cpu.u ∧ t.cpu.pc = s.word p.2.1 ∧
      t.cpu.cc.f = (s.cpu.cc.f || p.2.2.1) ∧ t.cpu.cc.i = (s.cpu.cc.i || p.2.2.2) ∧
      t.cpu.cc.h = s.cpu.cc.h ∧ t.cpu.cc.n = s.cpu.cc.n ∧ t.cpu.cc.z = s.cpu.cc.z ∧ t.cpu.cc.v = s.cpu.cc.v ∧
      t.cpu.cc.c = s.cpu.cc.c ∧ t.dbg = s.dbg ∧
      t.ctl = { s.ctl with
        runState := .exec
        nmiLatch := if p.1 = .nmi then false else s.ctl.nmiLatch
        cwaiStacked := s.ctl.cwaiStacked && p.1 ∈ [Interrupt.swi, .swi2, .swi3] } ∧
      (pushes → t.cpu.cc.e = decide (p.1 ≠ .firq) ∧ t.cpu.s = s.cpu.s - (if p.1 = .firq then 3 else 12)) ∧
      (¬ pushes → t.cpu.cc.e = s.cpu.cc.e ∧ t.cpu.s = s.cpu.s ∧ PlainCellsSame s t)

/-- The stack frames (60_exceptions.md R467): twelve bytes from the new S for NMI, IRQ and the software interrupts,
three for FIRQ, with the new E and the old masks in the stacked CC; every other byte of memory that no device owns is
unchanged. -/
def Obligations.InterruptFramesOnTheStack : Prop :=
  ∀ s : State, s.mem.wf = true → s.ctl.cwaiStacked = false →
    (∀ k ∈ [Interrupt.nmi, .irq, .swi, .swi2, .swi3], (enterInterrupt k s).cpu.s = s.cpu.s - 12 ∧
      RamHolds (enterInterrupt k s) (s.cpu.s - 12) (fullFrame s) ∧
      PlainCellsSameBut (Within (s.cpu.s - 12) 12) s (enterInterrupt k s)) ∧
    (enterInterrupt .firq s).cpu.s = s.cpu.s - 3 ∧
    RamHolds (enterInterrupt .firq s) (s.cpu.s - 3) (shortFrame s) ∧
    PlainCellsSameBut (Within (s.cpu.s - 3) 3) s (enterInterrupt .firq s)

/-- SWI, SWI2, SWI3 (45_system.md R330, R331, R332): the full frame with E = 1 and the return address, F and I set by
SWI alone, PC from 0xFFFA, 0xFFF4, 0xFFF2 through the redirect; with the encodings and cycles of the rules. -/
def Obligations.SoftwareInterruptEffect : Prop :=
  ∀ p ∈ [(Instr.swi, (0xBFFA : Word), true, [(0x3F : Byte)], 19), (.swi2, 0xBFF4, false, [0x10, 0x3F], 20),
      (.swi3, 0xBFF2, false, [0x11, 0x3F], 20)], ∀ s : State,
    let masks := p.2.2.1
    encode p.1 = p.2.2.2.1 ∧ cycles p.1 = p.2.2.2.2 ∧
    ∃ t, exec p.1 s = .next t ∧
      t.cpu = { s.cpu with
        s := s.cpu.s - 12
        pc := s.word p.2.1
        cc := { s.cpu.cc with e := true, f := s.cpu.cc.f || masks, i := s.cpu.cc.i || masks } } ∧
      t.ctl = { s.ctl with runState := .exec } ∧ t.dbg = s.dbg ∧
      (s.mem.wf = true → RamHolds t (s.cpu.s - 12) (fullFrame s)) ∧
      PlainCellsSameBut (Within (s.cpu.s - 12) 12) s t

/-- CWAI (45_system.md R334): CC and the mask, E = 1, the full frame with that CC, then the wait. SYNC (R335): the wait
begins, nothing is pushed and nothing else changes; until a line is asserted, a halt or a reset comes, no step changes
anything (60_exceptions.md R468). -/
def Obligations.CwaiAndSyncEffect : Prop :=
  (∀ (m : Byte) (s : State),
    let cc := { unpackCC (packCC s.cpu.cc &&& m) with e := true }
    ∃ t, exec (.cwai m) s = .next t ∧
      t.cpu = { s.cpu with s := s.cpu.s - 12, cc := cc } ∧
      t.ctl = { s.ctl with runState := .sync, cwaiStacked := true } ∧ t.dbg = s.dbg ∧
      (s.mem.wf = true → RamHolds t (s.cpu.s - 12) (fullFrame (s.setCC cc))) ∧
      PlainCellsSameBut (Within (s.cpu.s - 12) 12) s t) ∧
  (∀ s : State, ∃ t, exec .sync s = .next t ∧ t = { s with ctl := { s.ctl with runState := .sync } } ∧
    (s.ctl.resetIn = false → s.ctl.haltIn = false → s.ctl.irqIn = false → s.ctl.firqIn = false →
      s.ctl.nmiLatch = false → ∀ n, Host.Core.run Sys2Proof.core n t = .next t))

/-- RTI (45_system.md R333): CC from the stack; with E = 1 in it the full frame, otherwise PC alone. The latches are
not touched, memory is not written. Its encoding and cycles are those of the rule. -/
def Obligations.RtiEffect : Prop :=
  encode .rti = [0x3B] ∧ cycles .rti = 6 ∧
  ∀ s : State,
    (∃ t, exec .rti s = .next t ∧ PlainCellsSame s t ∧ t.ctl = { s.ctl with irqIn := t.ctl.irqIn }) ∧
    (PlainSpan s.cpu.s 3 → (s.cell s.cpu.s).getLsbD 7 = false →
      exec .rti s = .next
        { s with cpu := { s.cpu with
            cc := unpackCC (s.cell s.cpu.s), pc := s.word (s.cpu.s + 1), s := s.cpu.s + 3 } }) ∧
    (PlainSpan s.cpu.s 12 → (s.cell s.cpu.s).getLsbD 7 = true →
      exec .rti s = .next
        { s with
          cpu :=
            { cc := unpackCC (s.cell s.cpu.s), a := s.cell (s.cpu.s + 1), b := s.cell (s.cpu.s + 2),
              dp := s.cell (s.cpu.s + 3), x := s.word (s.cpu.s + 4), y := s.word (s.cpu.s + 6),
              u := s.word (s.cpu.s + 8), pc := s.word (s.cpu.s + 10), s := s.cpu.s + 12 }
          dbg := { s.dbg with lastCycles := s.dbg.lastCycles + 9 } })

/-- An interrupt entry is undone by RTI (60_exceptions.md R477): with the frame in RAM, every register and flag is as
before the entry, but E, which is the E the entry wrote. -/
def Obligations.ReturnUndoesInterruptEntry : Prop :=
  ∀ (k : Interrupt) (s : State), s.mem.wf = true → s.ctl.cwaiStacked = false →
    (∀ j, j < 12 → cellKind (s.cpu.s - 12 + BitVec.ofNat 16 j) = .ram) →
    ∃ t, exec .rti (enterInterrupt k s) = .next t ∧
      t.cpu = { s.cpu with cc := { s.cpu.cc with e := decide (k ≠ .firq) } }

/-! ## Whole-machine rules -/

/-- Every step keeps the invariant, from every state that has it. -/
def Obligations.EveryStepKeepsTheInvariant : Prop :=
  ∀ s t : State, Inv s → step s = .next t → Inv t

/-- The state after reset has the invariant, run state RESET, F = I = 1 and the other flags 0, every register but PC
0, the NMI disarmed, no latch set, nothing in the debug state, and every device at its cold value; PC, which the ROM
decides, is not stated (70_reset_and_hazards.md R511, 60_exceptions.md R462). It is the cold start followed by a reset
whose latch is released (log 3); the values of RAM and ROM in it are the model's (log 1, log 2). -/
def Obligations.ResetStateHasTheInvariant : Prop :=
  let s := State.reset
  Inv s ∧
  s.ctl =
    { runState := .reset, haltIn := false, resetIn := false, irqIn := false, firqIn := false, nmiLatch := false,
      nmiArmed := false, cwaiStacked := false } ∧
  s.cpu =
    { a := 0, b := 0, dp := 0, x := 0, y := 0, u := 0, s := 0, pc := s.cpu.pc,
      cc := { e := false, f := true, h := false, i := true, n := false, z := false, v := false, c := false } } ∧
  s.dbg = { lastPc := 0, lastBytes := 0, lastCycles := 0, excCause := none } ∧
  s.sam = 0 ∧
  s.vdg =
    { samVideoMode := 0, piaVideoMode := 0, displayOffset := s.vdg.displayOffset, displayBase := 0,
      mode := .alphaInternal, prevMode := .undefinedMode } ∧
  s.pia0.fsEnable = false ∧ s.pia0.fkey = 0 ∧ s.pia0.rowScan = 0x7F ∧ (∀ r, s.pia0.rowCache.get r = 0xFF) ∧
  s.pia1 =
    { audioMux := 0, casOctet := 0, casBitsLeft := 0, casPhase := 0, casThreshold := 20, casOut := false,
      casFile := none, casPos := 0, prevCraCa2 := 0 } ∧
  s.host.fb.width = 256 ∧ s.host.fb.height = 192

/-- ROM constancy (20_memory.md R68): no sequence of steps changes what a read of a ROM address answers. -/
def Obligations.RomNeverChanges : Prop :=
  ∀ (n : Nat) (s t : State) (a : Word), Host.Core.run Sys2Proof.core n s = .next t →
    0x8000 ≤ a.toNat → a.toNat ≤ 0xFEFF → (read8 a t).1 = (read8 a s).1

/-- The NMI is armed by LDS, LEAS, TFR to S, EXG with S and PULU of S, and by no other instruction; no instruction
disarms it (60_exceptions.md R465). An instruction sets no input latch: halt, reset and FIRQ keep their value, NMI
too, IRQ can only be dropped (10_state.md R18, 48_dev_pia0.md R406). It leaves `last_pc`, `last_bytes` and `exc_cause`,
and all but RTI leave `last_cycles` (10_state.md R21, 70_reset_and_hazards.md R540). -/
def Obligations.WhatInstructionsDoToTheLatches : Prop :=
  ∀ (i : Instr) (s t : State), exec i s = .next t →
    t.ctl.nmiArmed = (s.ctl.nmiArmed || armsNmi i) ∧
    t.ctl.haltIn = s.ctl.haltIn ∧ t.ctl.resetIn = s.ctl.resetIn ∧ t.ctl.firqIn = s.ctl.firqIn ∧
    t.ctl.nmiLatch = s.ctl.nmiLatch ∧ (t.ctl.irqIn = true → s.ctl.irqIn = true) ∧
    t.dbg.lastPc = s.dbg.lastPc ∧ t.dbg.lastBytes = s.dbg.lastBytes ∧ t.dbg.excCause = s.dbg.excCause ∧
    (i ≠ .rti → t.dbg.lastCycles = s.dbg.lastCycles)

/-! ## Memory -/

/-- A byte written to RAM is what the next read answers, and nothing else changes; a byte written to ROM is discarded
(20_memory.md R52, R53). A word lies high byte first, wrapping at the top, and a read of it assembles the two bytes
(R60, R61). At the top, the word at 0xFFFF is the byte the vector window answers, that of 0xBFFF, then the byte at
0x0000. -/
def Obligations.WrittenBytesAreReadBack : Prop :=
  (∀ (a : Word) (v : Byte) (s : State),
    (cellKind a = .rom → write8 a v s = s) ∧
    (cellKind a = .ram → s.mem.wf = true →
      read8 a (write8 a v s) = (v, write8 a v s) ∧ (∀ b, b ≠ a → (write8 a v s).cell b = s.cell b) ∧
      (write8 a v s).cpu = s.cpu ∧ (write8 a v s).ctl = s.ctl ∧ (write8 a v s).dbg = s.dbg ∧
      SameDevices s (write8 a v s))) ∧
  (∀ (a w : Word) (s : State), s.mem.wf = true → cellKind a = .ram → cellKind (a + 1) = .ram →
    (memWrite16 a w s).cell a = hi w ∧ (memWrite16 a w s).cell (a + 1) = lo w ∧
    (memRead16 a s).1.toNat = (s.cell a).toNat * 256 + (s.cell (a + 1)).toNat ∧
    memRead16 a (memWrite16 a w s) = (w, memWrite16 a w s)) ∧
  (∀ (w : Word) (s : State), s.mem.wf = true →
    (memRead16 0xFFFF s).1.toNat = (s.cell 0xBFFF).toNat * 256 + (s.cell 0x0000).toNat ∧
    (memWrite16 0xFFFF w s).cell 0xFFFF = hi w ∧ (memWrite16 0xFFFF w s).cell 0x0000 = lo w ∧
    (∀ b, b ≠ 0xFFFF → b ≠ 0x0000 → (memWrite16 0xFFFF w s).cell b = s.cell b))

/-- A read of the vector window answers the byte 0x4000 lower and stores it in the window cell, and nothing else
happens; what was written to the window is never seen (46_dev_sam.md R356, 20_memory.md R66). -/
def Obligations.VectorWindowReadsTheRom : Prop :=
  ∀ (a : Word) (v : Byte) (s : State), 0xFFF2 ≤ a.toNat →
    (read8 a s).1 = s.cell (a - 0x4000) ∧ (read8 a s).2 = s.setCell a (s.cell (a - 0x4000)) ∧
    (read8 a (write8 a v s)).1 = s.cell (a - 0x4000)

/-! ## Devices -/

/-- The SAM's pair-set window (46_dev_sam.md R350, R351): a write to the even address of a pair clears its bit and to
the odd one sets it, whatever the byte; the other bits keep their value; mode, offset and base go to the VDG. A read
changes no SAM bit and nothing of the VDG; the byte is free and is stored in the cell read (R352, log 8). -/
def Obligations.SamControlWindow : Prop :=
  (∀ (k : Fin 16) (b : Bool) (v : Byte) (s : State),
    let t := write8 (0xFFC0 + BitVec.ofNat 16 (2 * k.val + b.toNat)) v s
    (∀ j : Fin 16, t.sam.getLsbD j = if j = k then b else s.sam.getLsbD j) ∧
    VdgCoherent t.sam t.vdg ∧ t.vdg.displayBase.toNat = t.vdg.displayOffset.toNat * 512 ∧
    t.vdg.piaVideoMode = s.vdg.piaVideoMode ∧ t.vdg.prevMode = s.vdg.prevMode ∧ t.cpu = s.cpu ∧ t.ctl = s.ctl ∧
    t.pia0 = s.pia0 ∧ t.pia1 = s.pia1 ∧ t.host = s.host ∧ t.out = s.out ∧ PlainCellsSame s t) ∧
  (∀ (k : Fin 32) (s : State),
    let a : Word := 0xFFC0 + BitVec.ofNat 16 k.val
    ∃ v, read8 a s = (v, { s with mem := Memory.write s.mem a.toNat v, draws := s.draws + 1 }))

/-- The video mode after a write of PIA1's port B (49_dev_pia1.md R436, 47_dev_vdg.md R371, R373): the table of R374
row by row, DMA for SAM mode 7, UNDEFINED where no row fits. -/
def Obligations.VideoModeTable : Prop :=
  ∀ (v : Byte) (s : State),
    let t := write8 0xFF22 v s
    let sam := s.vdg.samVideoMode.toNat
    t.vdg.piaVideoMode.toNat = v.toNat / 8 ∧ t.vdg.samVideoMode = s.vdg.samVideoMode ∧
    t.vdg.displayBase = s.vdg.displayBase ∧ t.vdg.prevMode = s.vdg.prevMode ∧ t.sam = s.sam ∧ t.cpu = s.cpu ∧
    (sam = 7 → t.vdg.mode = .dma) ∧
    (sam ≠ 7 → 128 ≤ v.toNat → some t.vdg.mode =
      [VideoMode.graphics1C, .graphics1R, .graphics2C, .graphics2R, .graphics3C, .graphics3R, .graphics6C,
        .graphics6R][v.toNat / 16 % 8]?) ∧
    (v.toNat < 128 → v.toNat / 16 % 2 = 0 →
      (sam = 0 → t.vdg.mode = .alphaInternal) ∧ (sam = 2 → t.vdg.mode = .semiGraphics8) ∧
      (sam = 4 → t.vdg.mode = .semiGraphics12) ∧ (sam = 6 → t.vdg.mode = .semiGraphics24)) ∧
    (v.toNat < 128 → v.toNat / 16 % 2 = 1 →
      (sam = 0 → t.vdg.mode = .alphaExternal) ∧ (sam = 2 ∨ sam = 4 ∨ sam = 6 → t.vdg.mode = .undefinedMode)) ∧
    (v.toNat < 128 → sam = 1 ∨ sam = 3 ∨ sam = 5 → t.vdg.mode = .undefinedMode)

/-- A keyboard scan (48_dev_pia0.md R405): after a write of PIA0's port B with no key event pending, row r reads 0
exactly when a column the byte drives low has its key in that row pressed; port A's cell shows the rows in its bits
6..0. Key events (R405, R410, R411): a make of a matrix key clears its mask in its row and leaves the other rows; the
break that follows sets it again, so that released rows are released again; a make of F1 to F10 is latched and touches
no row, its break does nothing; one write takes one event. -/
def Obligations.KeyboardScanAndEvents : Prop :=
  (∀ (v : Byte) (s : State), s.mem.wf = true → s.host.keyEvents = [] →
    let t := write8 0xFF02 v s
    t.pia0.rowCache = s.pia0.rowCache ∧ t.pia0.fkey = s.pia0.fkey ∧ t.pia0.fsEnable = s.pia0.fsEnable ∧
    (∀ r : Fin 7, t.pia0.rowScan.getLsbD r = false ↔
      ∃ c, c < 8 ∧ v.getLsbD c = false ∧ (s.pia0.rowCache.get r).getLsbD c = false) ∧
    (∀ r : Fin 7, (t.cell 0xFF00).getLsbD r = t.pia0.rowScan.getLsbD r) ∧
    t.cell 0xFF02 = v ∧ PlainCellsSame s t ∧ t.cpu = s.cpu ∧ t.ctl = s.ctl) ∧
  (∀ (e v : Byte) (more : List Byte) (s : State), s.host.keyEvents = e :: more → e ≠ 0 → e.toNat < 128 →
    let t := write8 0xFF02 v s
    t.host.keyEvents = more ∧
    (e.toNat ≤ 80 → ¬ (59 ≤ e.toNat ∧ e.toNat ≤ 68) →
      (t.pia0.rowCache.get (keymap e.toNat).1 = s.pia0.rowCache.get (keymap e.toNat).1 &&& ~~~(keymap e.toNat).2) ∧
      (∀ r, r ≠ (keymap e.toNat).1 → t.pia0.rowCache.get r = s.pia0.rowCache.get r) ∧
      t.pia0.fkey = s.pia0.fkey ∧
      (∀ w rest, more = (e ||| 0x80) :: rest → (∀ r, s.pia0.rowCache.get r = 0xFF) →
        ∀ r, (write8 0xFF02 w t).pia0.rowCache.get r = 0xFF)) ∧
    (59 ≤ e.toNat ∧ e.toNat ≤ 68 →
      t.pia0.fkey = e.toNat - 58 ∧ t.pia0.rowCache = s.pia0.rowCache ∧
      (∀ w rest, more = (e ||| 0x80) :: rest → (write8 0xFF02 w t).pia0.fkey = e.toNat - 58)) ∧
    (80 < e.toNat → t.pia0.fkey = s.pia0.fkey ∧ t.pia0.rowCache = s.pia0.rowCache) ∧
    (keymap 16 = (4, 0x02)))

/-- The field sync (48_dev_pia0.md R406, R407, R412): the tick sets bit 7 of CRB and asserts IRQ exactly when bit 0
of the last byte written to CRB was 1; a read of port B clears the bit, drops IRQ and answers port B's byte. -/
def Obligations.FieldSyncIsSetAndAcknowledged : Prop :=
  ∀ (v : Byte) (s : State), s.mem.wf = true →
    let w := write8 0xFF03 v s
    let t := vsyncIrq w
    let u := (read8 0xFF02 t).2
    w.cell 0xFF03 = v ∧ w.ctl = s.ctl ∧ w.pia0.fsEnable = v.getLsbD 0 ∧
    (v.getLsbD 0 = true → t.ctl = { s.ctl with irqIn := true } ∧ t.cell 0xFF03 = v ||| 0x80) ∧
    (v.getLsbD 0 = false → t = w) ∧
    (read8 0xFF02 t).1 = s.cell 0xFF02 ∧ u.ctl = { s.ctl with irqIn := false } ∧ u.cell 0xFF03 = v &&& 0x7F ∧
    (∀ a, a ≠ 0xFF03 → u.cell a = s.cell a) ∧ u.cpu = s.cpu

/-- A read of PIA0's port A (48_dev_pia0.md R402): bit 7 the comparator, bits 6..1 the row scan, bit 0 row 0 unless
the fire button is pressed; the answer is stored, the row scan stays. The levels are the host's next answers. -/
def Obligations.JoystickAndRowsOnPortA : Prop :=
  ∀ (level pressed : Bool) (ls ps : List Bool) (s : State), s.mem.wf = true →
    s.host.joystkComp = level :: ls → s.host.rjoystkButton = pressed :: ps →
    let v := (read8 0xFF00 s).1
    let t := (read8 0xFF00 s).2
    v.getLsbD 7 = level ∧ (∀ k, 1 ≤ k → k ≤ 6 → v.getLsbD k = s.pia0.rowScan.getLsbD k) ∧
    v.getLsbD 0 = (s.pia0.rowScan.getLsbD 0 && !pressed) ∧ t.cell 0xFF00 = v ∧
    (∀ a, a ≠ 0xFF00 → t.cell a = s.cell a) ∧ t.pia0 = s.pia0 ∧ t.cpu = s.cpu ∧ t.ctl = s.ctl ∧
    t.host = { s.host with joystkComp := ls, rjoystkButton := ps }

/-- Sound (48_dev_pia0.md R404, 49_dev_pia1.md R432, R439): a write of PIA1's port A hands its bits 7..2 to the DAC;
pattern 0b111 in bits 5..3 of PIA0's CRA or PIA1's CRB sets bit 0 or bit 1 of the audio multiplexer and 0b110 clears
it, telling the host; any other pattern does nothing. -/
def Obligations.SoundOutputs : Prop :=
  ∀ (v : Byte) (s : State),
    (∃ d : BitVec 6, (write8 0xFF20 v s).out = .writeDac d :: s.out ∧ d.toNat = v.toNat / 4) ∧
    (write8 0xFF20 v s).pia1 = s.pia1 ∧
    (∀ p ∈ [((0xFF01 : Word), 0), (0xFF23, 1)],
      let t := write8 p.1 v s
      (v.toNat / 8 % 8 = 7 → t.out = .audioMuxSet t.pia1.audioMux :: s.out ∧
        ∀ k, k < 2 → t.pia1.audioMux.getLsbD k = (s.pia1.audioMux.getLsbD k || k == p.2)) ∧
      (v.toNat / 8 % 8 = 6 → t.out = .audioMuxSet t.pia1.audioMux :: s.out ∧
        ∀ k, k < 2 → t.pia1.audioMux.getLsbD k = (s.pia1.audioMux.getLsbD k && k != p.2)) ∧
      (v.toNat / 8 % 8 < 6 → t.out = s.out ∧ t.pia1 = s.pia1) ∧
      t.cpu = s.cpu ∧ t.ctl = s.ctl ∧ t.sam = s.sam ∧ t.vdg = s.vdg ∧ t.pia0 = s.pia0)

/-- The cassette motor (49_dev_pia1.md R438): a change of bits 5..3 of PIA1's CRA to 0b111 takes the mounted file over
at its first byte and restarts the stream; a repeated pattern, and a change to any other, touches only the record of
the last pattern. A new octet (R433, R435): the first read after the last one is exhausted takes the next byte of the
file, or 0x55 without a file and past its end, for nine bit cells. -/
def Obligations.CassetteMotorAndNextOctet : Prop :=
  (∀ (v : Byte) (s : State),
    let t := write8 0xFF21 v s
    (v.toNat / 8 % 8 = 7 ∧ s.pia1.prevCraCa2.toNat ≠ 7 →
      t.pia1 = { s.pia1 with
        casFile := s.host.mountedCas, casPos := 0, casBitsLeft := 0, casPhase := 0, casOut := false,
        prevCraCa2 := 7 }) ∧
    (v.toNat / 8 % 8 ≠ 7 ∨ s.pia1.prevCraCa2.toNat = 7 →
      t.pia1 = { s.pia1 with prevCraCa2 := v.extractLsb' 3 3 }) ∧
    t.out = s.out ∧ t.cpu = s.cpu ∧ t.vdg = s.vdg ∧ t.host = s.host) ∧
  (∀ s : State, s.pia1.casBitsLeft = 0 → s.pia1.casPhase = 0 →
    let t := (read8 0xFF20 s).2
    let octet := ((s.pia1.casFile.getD []).drop s.pia1.casPos).headD 0x55
    t.pia1.casOctet = octet ∧ t.pia1.casBitsLeft = 9 ∧ t.pia1.casPhase = 1 ∧ t.pia1.casOut = false ∧
    t.pia1.casThreshold = (if octet.toNat % 2 = 1 then 4 else 20) ∧ t.pia1.casFile = s.pia1.casFile ∧
    t.pia1.casPos =
      (if s.pia1.casPos < (s.pia1.casFile.getD []).length then s.pia1.casPos + 1 else s.pia1.casPos))

/-- A bit cell of the cassette (49_dev_pia1.md R433, R434, log 23): from its start, `threshold` reads of PIA1's port A
answer 0 in bit 0 and the next `threshold` answer 1, the other bits being those last written; after them the octet has
moved on by one bit, its threshold 4 for a 1 and 20 for a 0. -/
def Obligations.CassetteBitCell : Prop :=
  ∀ (n : Nat) (s : State), s.mem.wf = true → CassetteSound s.pia1 → s.pia1.casPhase = 0 → s.pia1.casBitsLeft ≠ 0 →
    (n < 2 * s.pia1.casThreshold →
      ((read8 0xFF20 (portReads n s)).1.getLsbD 0 = decide (s.pia1.casThreshold ≤ n)) ∧
      (∀ k, 1 ≤ k → k < 8 → (read8 0xFF20 (portReads n s)).1.getLsbD k = (s.cell 0xFF20).getLsbD k)) ∧
    (n = 2 * s.pia1.casThreshold →
      (portReads n s).pia1.casPhase = 0 ∧ (portReads n s).pia1.casOctet.toNat = s.pia1.casOctet.toNat / 2 ∧
      (portReads n s).pia1.casBitsLeft = s.pia1.casBitsLeft - 1 ∧
      (1 < s.pia1.casBitsLeft →
        (portReads n s).pia1.casThreshold = if s.pia1.casOctet.toNat / 2 % 2 = 1 then 4 else 20)) ∧
    (portReads n s).cpu = s.cpu ∧ (portReads n s).ctl = s.ctl

/-- A render in a mode it cannot paint stops the host (47_dev_vdg.md R377, R385). In ALPHA_INTERNAL and the graphics
modes it paints the whole framebuffer, of the negotiated size if the mode has changed, and keeps the palette (R380); it
changes nothing else but the record of the mode and the host's log. Where the framebuffer has the mode's source size
(R376), a graphics pixel `k` in raster order is its two bits, or its bit, of byte `k / 4`, or `k / 8`, the most
significant leftmost, looked up in the colours CSS selects (R379); a text pixel is the dot of the cell of 8 by 12 pixels
it lies in (R378). -/
def Obligations.RenderPaintsOrStops : Prop :=
  ∀ s : State,
    (s.vdg.mode ∈ [VideoMode.alphaExternal, .dma, .undefinedMode] → render s = .fault .videoFault) ∧
    (s.vdg.mode ∈ [VideoMode.alphaInternal, .graphics1C, .graphics1R, .graphics2C, .graphics2R, .graphics3C,
        .graphics3R, .graphics6C, .graphics6R] → ∃ t, render s = .next t) ∧
    (∀ t, render s = .next t →
      t.cpu = s.cpu ∧ t.ctl = s.ctl ∧ t.dbg = s.dbg ∧ t.mem = s.mem ∧ t.sam = s.sam ∧
      t.vdg = { s.vdg with prevMode := s.vdg.mode } ∧ t.pia0 = s.pia0 ∧ t.pia1 = s.pia1 ∧
      t.host = { s.host with fb := t.host.fb } ∧ t.draws = s.draws ∧ t.host.fb.palette = s.host.fb.palette ∧
      (t.host.fb.width, t.host.fb.height) =
        (if s.vdg.mode = s.vdg.prevMode then (s.host.fb.width, s.host.fb.height) else Config.fbRes s.vdg.mode) ∧
      ∃ picture, t.host.fb.picture = some picture ∧ picture.length = t.host.fb.width * t.host.fb.height ∧
        (∀ g ∈ [(VideoMode.graphics1C, 64, 64), (.graphics2C, 128, 64), (.graphics3C, 128, 96),
            (.graphics6C, 128, 192)],
          s.vdg.mode = g.1 → t.host.fb.width = g.2.1 → t.host.fb.height = g.2.2 →
          ∀ k, k < g.2.1 * g.2.2 →
            let p := (s.cell (s.vdg.displayBase + BitVec.ofNat 16 (k / 4))).extractLsb' (6 - 2 * (k % 4)) 2
            picture[k]? = some (Config.gfxColours g.1 (Fin.ofNat 8 (s.vdg.css.toNat * 4 + p.toNat)))) ∧
        (∀ g ∈ [(VideoMode.graphics1R, 128, 64), (.graphics2R, 128, 96), (.graphics3R, 128, 192),
            (.graphics6R, 256, 192)],
          s.vdg.mode = g.1 → t.host.fb.width = g.2.1 → t.host.fb.height = g.2.2 →
          ∀ k, k < g.2.1 * g.2.2 →
            let p := (s.cell (s.vdg.displayBase + BitVec.ofNat 16 (k / 8))).getLsbD (7 - k % 8)
            picture[k]? = some (Config.gfxPairs g.1 s.vdg.css p)) ∧
        (s.vdg.mode = .alphaInternal → t.host.fb.width = 256 → t.host.fb.height = 192 →
          ∀ (col : Fin 32) (row : Fin 16) (x : Fin 8) (y : Fin 12),
            let c := s.cell (s.vdg.displayBase + BitVec.ofNat 16 (col + row * 32))
            let colours := Config.textColors s.vdg.css
            picture[(row.val * 12 + y) * 256 + col * 8 + x]? =
              some (
                if 128 ≤ c.toNat then
                  if Config.sg4Bitmap (c.extractLsb' 0 4) x y then Config.sgColors (c.extractLsb' 4 3) else 0
                else if Config.font (c.extractLsb' 0 6) x y = decide (c.toNat < 64) then colours.1
                else colours.2)))

/-! ## Addressing -/

/-- The effective address of every form (40_addressing_modes.md R124, R125, R129..R143), as a number: the direct page,
the 16-bit address, the register with its offset modulo 65,536, before the increment and after the decrement. An
indirect form gives the word at that address, read after the register has been updated. -/
def Obligations.EffectiveAddressForms : Prop :=
  ∀ (s : State) (r : IdxReg),
    let base := ((s.idx r).toNat : Int)
    let at_ (m : Submode) := ((ea (.indexed (.sub r false m)) s).1.toNat : Int)
    (∀ d, (ea (.direct d) s).1.toNat = s.cpu.dp.toNat * 256 + d.toNat) ∧
    (∀ a, ea (.extended a) s = (a, s)) ∧
    (∀ n, ((ea (.indexed (.off5 r n)) s).1.toNat : Int) = (base + n.toInt) % 65536) ∧
    at_ .postInc1 = base ∧ at_ .postInc2 = base ∧ at_ .preDec1 = (base - 1) % 65536 ∧
    at_ .preDec2 = (base - 2) % 65536 ∧ at_ .noOffset = base ∧ at_ .offB = (base + s.cpu.b.toInt) % 65536 ∧
    at_ .offA = (base + s.cpu.a.toInt) % 65536 ∧
    at_ .offD = (base + s.cpu.a.toNat * 256 + s.cpu.b.toNat) % 65536 ∧
    (∀ n, at_ (.off8 n) = (base + n.toInt) % 65536) ∧ (∀ n, at_ (.off16 n) = (base + n.toInt) % 65536) ∧
    (∀ n, at_ (.pc8 n) = (s.cpu.pc.toNat + n.toInt) % 65536) ∧
    (∀ n, at_ (.pc16 n) = (s.cpu.pc.toNat + n.toInt) % 65536) ∧
    (∀ a, (ea (.indexed (.sub r true (.extended a))) s).1 = (memRead16 a s).1) ∧
    (∀ m, PointerPlain (.indexed (.sub r true m)) s →
      (ea (.indexed (.sub r true m)) s).1 = s.word (ea (.indexed (.sub r false m)) s).1)

/-- The side effects of addressing (40_addressing_modes.md R130..R133, R143, R146): only the four auto forms move a
register, their own, by one or two; apart from that, an address whose pointer lies in cells without a callback changes
nothing at all, and no address changes a register or a byte that no device owns. -/
def Obligations.AddressingSideEffects : Prop :=
  ∀ (m : Mem) (s : State),
    (ea m s).2.cpu = (afterAuto m s).cpu ∧ (ea m s).2.dbg = s.dbg ∧ PlainCellsSame s (ea m s).2 ∧
    (ea m s).2.ctl = { s.ctl with irqIn := (ea m s).2.ctl.irqIn } ∧
    (PointerPlain m s → (ea m s).2 = afterAuto m s) ∧
    (∀ (r : IdxReg) (f : Submode) (ind : Bool) (q : IdxReg), m = .indexed (.sub r ind f) →
      ((ea m s).2.idx q).toNat =
        if q = r then
          match f with
          | .postInc1 => ((s.idx r).toNat + 1) % 65536
          | .postInc2 => ((s.idx r).toNat + 2) % 65536
          | .preDec1 => ((s.idx r).toNat + 65535) % 65536
          | .preDec2 => ((s.idx r).toNat + 65534) % 65536
          | _ => (s.idx r).toNat
        else (s.idx q).toNat)

/-- The operands (40_addressing_modes.md R120, R122, R123): the immediate value, or what is read at the effective
address; with the pointer and the operand in cells without a callback, the bytes there and no other effect than the
register's; whatever the cells, a read changes no register and no byte that no device owns. -/
def Obligations.OperandValues : Prop :=
  (∀ v s, operand8 (.imm v) s = (v, s)) ∧ (∀ v s, operand16 (.imm v) s = (v, s)) ∧
  (∀ (m : Mem) (s : State), PointerPlain m s →
    (isIo (ea m s).1 = false → operand8 (.mem m) s = (s.cell (ea m s).1, afterAuto m s)) ∧
    (isIo (ea m s).1 = false → isIo ((ea m s).1 + 1) = false →
      operand16 (.mem m) s = (s.word (ea m s).1, afterAuto m s))) ∧
  (∀ (m : Mem) (s : State),
    (operand8 (.mem m) s).2.cpu = (afterAuto m s).cpu ∧ PlainCellsSame s (operand8 (.mem m) s).2 ∧
    (operand16 (.mem m) s).2.cpu = (afterAuto m s).cpu ∧ PlainCellsSame s (operand16 (.mem m) s).2)

/-! ## Loads, stores, transfers -/

/-- LDA, LDB (41_load_store_transfer.md R151, R152): the register takes the operand, N and Z are those of the value,
V = 0; nothing else changes after the operand has been read. -/
def Obligations.LoadAccumulatorResult : Prop :=
  ∀ p ∈ [(Instr.lda, Acc.a), (Instr.ldb, Acc.b)], ∀ (o : Src8) (s : State),
    let v := (operand8 o s).1
    let q := (operand8 o s).2
    ∃ t, exec (p.1 o) s = .next t ∧ t.acc p.2 = v ∧ SignZero8 v t.cpu.cc ∧ t.cpu.cc.v = false ∧
      t.cpu.cc.c = s.cpu.cc.c ∧ t.cpu.cc.h = s.cpu.cc.h ∧ SameMasks s.cpu.cc t.cpu.cc ∧
      (t.setAcc p.2 (q.acc p.2)).setCC s.cpu.cc = q ∧ PlainCellsSame s t

/-- LDD, LDX, LDY, LDU, LDS (41_load_store_transfer.md R153..R157): the register takes the word, whatever the
addressing did to it, N and Z are those of the word, V = 0; LDS arms the NMI. -/
def Obligations.LoadWordResult : Prop :=
  ∀ p ∈ [(Instr.ldd, Wide.d), (Instr.ldx, Wide.x), (Instr.ldy, Wide.y), (Instr.ldu, Wide.u), (Instr.lds, Wide.s)],
    ∀ (o : Src16) (s : State),
    let w := (operand16 o s).1
    let q := (operand16 o s).2
    ∃ t, exec (p.1 o) s = .next t ∧ t.wide p.2 = w ∧ SignZero16 w t.cpu.cc ∧ t.cpu.cc.v = false ∧
      t.cpu.cc.c = s.cpu.cc.c ∧ t.cpu.cc.h = s.cpu.cc.h ∧ SameMasks s.cpu.cc t.cpu.cc ∧
      (t.setWide p.2 (q.wide p.2)).setCC s.cpu.cc = (if p.2 = .s then q.armNmi else q) ∧ PlainCellsSame s t

/-- STA, STB (41_load_store_transfer.md R158, R159): the byte goes to the effective address, N and Z are its, V = 0,
also when the cell is ROM; no register changes but by the addressing, and no other byte that no device owns. -/
def Obligations.StoreAccumulatorResult : Prop :=
  ∀ p ∈ [(Instr.sta, Acc.a), (Instr.stb, Acc.b)], ∀ (m : Mem) (s : State),
    let a := (ea m s).1
    let q := (ea m s).2
    ∃ t, exec (p.1 m) s = .next t ∧ t.setCC s.cpu.cc = write8 a (s.acc p.2) q ∧
      SignZero8 (s.acc p.2) t.cpu.cc ∧ t.cpu.cc.v = false ∧ t.cpu.cc.c = s.cpu.cc.c ∧ t.cpu.cc.h = s.cpu.cc.h ∧
      SameMasks s.cpu.cc t.cpu.cc ∧ (t.setCC s.cpu.cc).cpu = q.cpu ∧
      (s.mem.wf = true → cellKind a = .ram → t.cell a = s.acc p.2) ∧ PlainCellsSameBut (· = a) s t

/-- STD, STX, STY, STU, STS (41_load_store_transfer.md R160..R164): the word goes to the effective address, high byte
first; the register is read after the addressing has moved it (40_addressing_modes.md R146). -/
def Obligations.StoreWordResult : Prop :=
  ∀ p ∈ [(Instr.std, Wide.d), (Instr.stx, Wide.x), (Instr.sty, Wide.y), (Instr.stu, Wide.u), (Instr.sts, Wide.s)],
    ∀ (m : Mem) (s : State),
    let a := (ea m s).1
    let q := (ea m s).2
    let w := q.wide p.2
    ∃ t, exec (p.1 m) s = .next t ∧ t.setCC s.cpu.cc = memWrite16 a w q ∧
      SignZero16 w t.cpu.cc ∧ t.cpu.cc.v = false ∧ t.cpu.cc.c = s.cpu.cc.c ∧ t.cpu.cc.h = s.cpu.cc.h ∧
      SameMasks s.cpu.cc t.cpu.cc ∧ (t.setCC s.cpu.cc).cpu = q.cpu ∧
      (s.mem.wf = true → RamHolds t a [hi w, lo w]) ∧ PlainCellsSameBut (Within a 2) s t

/-- LEAX, LEAY, LEAS, LEAU (41_load_store_transfer.md R165..R168): the register takes the effective address, whatever
the addressing did to it; Z for X and Y, no other flag; LEAS arms the NMI; memory is not read at the address. The
opcodes are those of the rules. -/
def Obligations.LoadEffectiveAddressResult : Prop :=
  ∀ p ∈ [(Instr.leax, Wide.x, (0x30 : Byte)), (Instr.leay, Wide.y, 0x31), (Instr.leas, Wide.s, 0x32),
      (Instr.leau, Wide.u, 0x33)], ∀ (ix : Indexed) (s : State),
    let r := p.2.1
    let a := (ea (.indexed ix) s).1
    let q := (ea (.indexed ix) s).2
    (encode (p.1 ix)).head? = some p.2.2 ∧
    ∃ t, exec (p.1 ix) s = .next t ∧ t.wide r = a ∧
      t.cpu.cc = (if r = .x ∨ r = .y then { s.cpu.cc with z := decide (a.toNat = 0) } else s.cpu.cc) ∧
      (t.setWide r (q.wide r)).setCC s.cpu.cc = (if r = .s then q.armNmi else q) ∧ PlainCellsSame s t

/-- TFR and EXG between registers of one size (41_load_store_transfer.md R169..R171): the destination takes the source,
or the two change places; all other registers, flags, memory and devices are unchanged; S as a destination arms the
NMI; CC as a destination takes all eight flags, PC is the address after the postbyte and a destination that jumps. -/
def Obligations.TransferAndExchangeResult : Prop :=
  ∀ (r1 r2 : Reg) (s : State),
    (isWideReg r1 = true → isWideReg r2 = true →
      (∃ t, exec (.tfr r1 r2) s = .next t ∧ regRead16 t r2 = regRead16 s r1 ∧
        regWrite16 r2 (regRead16 s r2) t = if r2 = .s then s.armNmi else s) ∧
      (∃ t, exec (.exg r1 r2) s = .next t ∧ regRead16 t r2 = regRead16 s r1 ∧ regRead16 t r1 = regRead16 s r2 ∧
        regWrite16 r1 (regRead16 s r1) (regWrite16 r2 (regRead16 s r2) t) =
          if r1 = .s ∨ r2 = .s then s.armNmi else s)) ∧
    (isWideReg r1 = false → isWideReg r2 = false →
      (∃ t, exec (.tfr r1 r2) s = .next t ∧ regRead8 t r2 = regRead8 s r1 ∧
        regWrite8 r2 (regRead8 s r2) t = s) ∧
      (∃ t, exec (.exg r1 r2) s = .next t ∧ regRead8 t r2 = regRead8 s r1 ∧ regRead8 t r1 = regRead8 s r2 ∧
        regWrite8 r1 (regRead8 s r1) (regWrite8 r2 (regRead8 s r2) t) = s))

/-- TFR and EXG of mixed sizes (41_load_store_transfer.md R169, 93_implementation_defined.md U2, log 5): the
instruction completes, its destinations take values nothing constrains, and nothing else changes. -/
def Obligations.MixedSizeTransfersAreFree : Prop :=
  ∀ (r1 r2 : Reg) (s : State), isWideReg r1 ≠ isWideReg r2 →
    (∃ w, exec (.tfr r1 r2) s = .next
      ((if isWideReg r2 then regWrite16 r2 w else regWrite8 r2 (lo w)) { s with draws := s.draws + 1 })) ∧
    (∃ v w, exec (.exg r1 r2) s = .next
      ((if isWideReg r2 then regWrite16 r2 w else regWrite8 r2 (lo w))
        ((if isWideReg r1 then regWrite16 r1 v else regWrite8 r1 (lo v)) { s with draws := s.draws + 2 })))

/-- PSHS, PSHU (41_load_store_transfer.md R172, R173, R175): the listed registers lie in ascending order CC, A, B, DP,
X, Y, the other stack pointer, PC from the new stack pointer on, words high byte first; nothing else changes but what
devices under the stack do. -/
def Obligations.PushListResult : Prop :=
  ∀ p ∈ [(Instr.pshs, Stack.system, (0x34 : Byte)), (Instr.pshu, Stack.user, 0x36)], ∀ (list : Byte) (s : State),
    let k := p.2.1
    let n := listBytes list
    let sp := s.sp k - BitVec.ofNat 16 n
    encode (p.1 list) = [p.2.2, list] ∧ n ≤ 12 ∧ (listImage k list s).length = n ∧
    ∃ t, exec (p.1 list) s = .next t ∧ t.cpu = (s.setSP k sp).cpu ∧
      t.ctl = s.ctl ∧ t.dbg = s.dbg ∧ (s.mem.wf = true → RamHolds t sp (listImage k list s)) ∧
      PlainCellsSameBut (Within sp n) s t

/-- PULS, PULU (41_load_store_transfer.md R172, R174, R176): from a stack in cells without a callback, each listed
register takes its bytes, in the order the push laid them; the pointer moves past them; PULU of S arms the NMI; nothing
else changes. From any stack the instruction completes and writes no byte that no device owns. -/
def Obligations.PullListResult : Prop :=
  ∀ p ∈ [(Instr.puls, Stack.system), (Instr.pulu, Stack.user)], ∀ (list : Byte) (s : State),
    let n := listBytes list
    let sp := s.sp p.2
    let byte_ (k : Nat) := s.cell (sp + pullOffset list k)
    let word_ (k : Nat) := s.word (sp + pullOffset list k)
    (∃ t, exec (p.1 list) s = .next t ∧ t.sp p.2 = sp + BitVec.ofNat 16 n ∧ PlainCellsSame s t) ∧
    (PlainSpan sp n →
      exec (p.1 list) s = .next
        { s with
          cpu :=
            { cc := if list.getLsbD 0 then unpackCC (byte_ 0) else s.cpu.cc
              a := if list.getLsbD 1 then byte_ 1 else s.cpu.a
              b := if list.getLsbD 2 then byte_ 2 else s.cpu.b
              dp := if list.getLsbD 3 then byte_ 3 else s.cpu.dp
              x := if list.getLsbD 4 then word_ 4 else s.cpu.x
              y := if list.getLsbD 5 then word_ 5 else s.cpu.y
              u := if p.2 = .user then sp + BitVec.ofNat 16 n else if list.getLsbD 6 then word_ 6 else s.cpu.u
              s := if p.2 = .system then sp + BitVec.ofNat 16 n else if list.getLsbD 6 then word_ 6 else s.cpu.s
              pc := if list.getLsbD 7 then word_ 7 else s.cpu.pc }
          ctl := { s.ctl with nmiArmed := s.ctl.nmiArmed || (p.2 == .user && list.getLsbD 6) } })

/-! ## Arithmetic -/

/-- ADDA, ADDB, ADCA, ADCB (42_arithmetic.md R190, R192, R193, R195, R196): the sum, with the old C for ADC, and the
five flags; nothing else changes after the operand has been read. -/
def Obligations.ByteAdditionResult : Prop :=
  ∀ p ∈ [(Instr.adda, Acc.a, false), (Instr.addb, Acc.b, false), (Instr.adca, Acc.a, true),
      (Instr.adcb, Acc.b, true)], ∀ (o : Src8) (s : State),
    let q := (operand8 o s).2
    ∃ t, exec (p.1 o) s = .next t ∧
      SumSpec (if p.2.2 then s.cpu.cc.c.toNat else 0) (s.acc p.2.1) (operand8 o s).1 (t.acc p.2.1) s.cpu.cc t.cpu.cc ∧
      (t.setAcc p.2.1 (s.acc p.2.1)).setCC s.cpu.cc = q ∧ PlainCellsSame s t

/-- SUBA, SUBB, SBCA, SBCB (42_arithmetic.md R191, R197, R198, R200, R201): the difference, with the old C for SBC,
and its flags. CMPA, CMPB (R202, R203): the flags of the difference, C iff lower, Z iff equal, and no register. H may
be anything (log 7). -/
def Obligations.ByteSubtractionAndCompare : Prop :=
  (∀ p ∈ [(Instr.suba, Acc.a, false), (Instr.subb, Acc.b, false), (Instr.sbca, Acc.a, true),
      (Instr.sbcb, Acc.b, true)], ∀ (o : Src8) (s : State),
    let q := (operand8 o s).2
    ∃ t, exec (p.1 o) s = .next t ∧
      DifferenceSpec (if p.2.2 then s.cpu.cc.c.toNat else 0) (s.acc p.2.1) (operand8 o s).1 (t.acc p.2.1)
        s.cpu.cc t.cpu.cc ∧
      (t.setAcc p.2.1 (s.acc p.2.1)).setCC s.cpu.cc = { q with draws := q.draws + 1 } ∧ PlainCellsSame s t) ∧
  (∀ p ∈ [(Instr.cmpa, Acc.a), (Instr.cmpb, Acc.b)], ∀ (o : Src8) (s : State),
    let q := (operand8 o s).2
    ∃ t r, exec (p.1 o) s = .next t ∧
      DifferenceSpec 0 (s.acc p.2) (operand8 o s).1 r s.cpu.cc t.cpu.cc ∧
      t.cpu.cc.z = decide (s.acc p.2 = (operand8 o s).1) ∧
      t.setCC s.cpu.cc = { q with draws := q.draws + 1 } ∧ PlainCellsSame s t)

/-- ADDD, SUBD (42_arithmetic.md R190, R191, R194, R199): the 16-bit sum or difference in D, with N, Z, V and C; H
unchanged. -/
def Obligations.WordAdditionAndSubtraction : Prop :=
  ∀ (o : Src16) (s : State),
    let w := (operand16 o s).1
    let q := (operand16 o s).2
    (∃ t, exec (.addd o) s = .next t ∧ t.d.toNat = (s.d.toNat + w.toNat) % 65536 ∧ SignZero16 t.d t.cpu.cc ∧
      t.cpu.cc.v = decide (s.d.toInt + w.toInt < -32768 ∨ 32767 < s.d.toInt + w.toInt) ∧
      t.cpu.cc.c = decide (65536 ≤ s.d.toNat + w.toNat) ∧ t.cpu.cc.h = s.cpu.cc.h ∧
      SameMasks s.cpu.cc t.cpu.cc ∧ (t.setD s.d).setCC s.cpu.cc = q ∧ PlainCellsSame s t) ∧
    (∃ t, exec (.subd o) s = .next t ∧ t.d.toNat = (s.d.toNat + 65536 - w.toNat) % 65536 ∧
      SignZero16 t.d t.cpu.cc ∧ t.cpu.cc.v = decide (s.d.toInt - w.toInt < -32768 ∨ 32767 < s.d.toInt - w.toInt) ∧
      t.cpu.cc.c = decide (s.d.toNat < w.toNat) ∧ t.cpu.cc.h = s.cpu.cc.h ∧
      SameMasks s.cpu.cc t.cpu.cc ∧ (t.setD s.d).setCC s.cpu.cc = q ∧ PlainCellsSame s t)

/-- CMPD, CMPX, CMPY, CMPU, CMPS (42_arithmetic.md R191, R204..R208): Z iff equal, C iff lower, N and V of the signed
difference; H and every register unchanged. The register is read after the addressing has moved it. -/
def Obligations.WordCompareResult : Prop :=
  ∀ p ∈ [(Instr.cmpd, Wide.d), (Instr.cmpx, Wide.x), (Instr.cmpy, Wide.y), (Instr.cmpu, Wide.u),
      (Instr.cmps, Wide.s)], ∀ (o : Src16) (s : State),
    let w := (operand16 o s).1
    let q := (operand16 o s).2
    let r := q.wide p.2
    ∃ t, exec (p.1 o) s = .next t ∧ t.setCC s.cpu.cc = q ∧ t.cpu.cc.z = decide (r = w) ∧
      t.cpu.cc.c = decide (r.toNat < w.toNat) ∧ t.cpu.cc.n = decide ((r - w).toInt < 0) ∧
      t.cpu.cc.v = decide (r.toInt - w.toInt < -32768 ∨ 32767 < r.toInt - w.toInt) ∧ t.cpu.cc.h = s.cpu.cc.h ∧
      SameMasks s.cpu.cc t.cpu.cc ∧ PlainCellsSame s t

/-- The single-operand instructions on an accumulator (42_arithmetic.md R209..R223, 43_logic_shift.md R248..R266): the
value and flags of each, and nothing else but the count of drawn values. -/
def Obligations.UnaryOnAccumulators : Prop :=
  ∀ p ∈ [(Instr.nega, Acc.a, NegSpec), (Instr.negb, Acc.b, NegSpec), (Instr.inca, Acc.a, IncSpec),
      (Instr.incb, Acc.b, IncSpec), (Instr.deca, Acc.a, DecSpec), (Instr.decb, Acc.b, DecSpec),
      (Instr.tsta, Acc.a, TstSpec), (Instr.tstb, Acc.b, TstSpec), (Instr.clra, Acc.a, ClrSpec),
      (Instr.clrb, Acc.b, ClrSpec), (Instr.coma, Acc.a, ComSpec), (Instr.comb, Acc.b, ComSpec),
      (Instr.asla, Acc.a, AslSpec), (Instr.aslb, Acc.b, AslSpec), (Instr.asra, Acc.a, AsrSpec),
      (Instr.asrb, Acc.b, AsrSpec), (Instr.lsra, Acc.a, LsrSpec), (Instr.lsrb, Acc.b, LsrSpec),
      (Instr.rola, Acc.a, RolSpec), (Instr.rolb, Acc.b, RolSpec), (Instr.rora, Acc.a, RorSpec),
      (Instr.rorb, Acc.b, RorSpec)], ∀ s : State,
    ∃ t, exec p.1 s = .next t ∧ p.2.2 (s.acc p.2.1) (t.acc p.2.1) s.cpu.cc t.cpu.cc ∧
      { (t.setAcc p.2.1 (s.acc p.2.1)).setCC s.cpu.cc with draws := s.draws } = s

/-- The single-operand instructions on memory (42_arithmetic.md R209, R212, R215, R218, R224, 43_logic_shift.md R250,
R255, R258, R261, R264, R267): one read, then one write of the same address, for CLR too, whose read is the spec's
default for the switch `CLR_MEM_READS`, log 17, with the value and flags of each. The flags are those of the computed
result also when the cell is ROM; no other byte that no device owns changes, and no register but by the addressing.
TST (R221): one read, the flags of the byte, no write. -/
def Obligations.UnaryOnMemory : Prop :=
  (∀ p ∈ [(Instr.neg, NegSpec), (Instr.inc, IncSpec), (Instr.dec, DecSpec), (Instr.clr, ClrSpec),
      (Instr.com, ComSpec), (Instr.asl, AslSpec), (Instr.asr, AsrSpec), (Instr.lsr, LsrSpec), (Instr.rol, RolSpec),
      (Instr.ror, RorSpec)], ∀ (m : Mem) (s : State),
    let a := (ea m s).1
    let v := (read8 a (ea m s).2).1
    let q := (read8 a (ea m s).2).2
    ∃ t r d, exec (p.1 m) s = .next t ∧ p.2 v r s.cpu.cc t.cpu.cc ∧
      t.setCC s.cpu.cc = write8 a r { q with draws := d } ∧ (t.setCC s.cpu.cc).cpu = (ea m s).2.cpu ∧
      (s.mem.wf = true → cellKind a = .ram → v = (ea m s).2.cell a ∧ t.cell a = r) ∧
      PlainCellsSameBut (· = a) s t) ∧
  (∀ (m : Mem) (s : State),
    let v := (read8 (ea m s).1 (ea m s).2).1
    ∃ t, exec (.tst m) s = .next t ∧ TstSpec v v s.cpu.cc t.cpu.cc ∧
      t.setCC s.cpu.cc = (read8 (ea m s).1 (ea m s).2).2 ∧ PlainCellsSame s t)

/-- MUL, SEX, ABX (42_arithmetic.md R225, R227, R228): the unsigned product in D with Z of all of it and C its bit 7;
B's sign through A with N and Z of D; X plus B without sign and without flags. Nothing else changes. -/
def Obligations.MultiplyAndExtend : Prop :=
  ∀ s : State,
    (∃ t, exec .mul s = .next t ∧ t.d.toNat = s.cpu.a.toNat * s.cpu.b.toNat ∧
      t.cpu.cc = { s.cpu.cc with
        z := decide (s.cpu.a.toNat = 0 ∨ s.cpu.b.toNat = 0), c := decide (128 ≤ t.cpu.b.toNat) } ∧
      (t.setD s.d).setCC s.cpu.cc = s) ∧
    (∃ t, exec .sex s = .next t ∧ t.d.toInt = s.cpu.b.toInt ∧ t.cpu.b = s.cpu.b ∧
      t.cpu.cc = { s.cpu.cc with n := decide (s.cpu.b.toInt < 0), z := decide (s.cpu.b.toNat = 0) } ∧
      (t.setA s.cpu.a).setCC s.cpu.cc = s) ∧
    (∃ t, exec .abx s = .next t ∧ t.cpu.x.toNat = (s.cpu.x.toNat + s.cpu.b.toNat) % 65536 ∧ t.setX s.cpu.x = s)

/-- DAA (42_arithmetic.md R226): the correction by the nibbles, H and C; C is the old C or the carry of the
correction, V = 0; nothing but A, N, Z, V and C changes. -/
def Obligations.DecimalAdjustResult : Prop :=
  ∀ s : State,
    let a := s.cpu.a.toNat
    let low := a % 16
    let high := a / 16
    let six := if 9 < low ∨ s.cpu.cc.h = true then 6 else 0
    let sixty := if (8 < high ∧ 9 < low) ∨ 9 < high ∨ s.cpu.cc.c = true then 96 else 0
    ∃ t, exec .daa s = .next t ∧ t.cpu.a.toNat = (a + six + sixty) % 256 ∧ SignZero8 t.cpu.a t.cpu.cc ∧
      t.cpu.cc.v = false ∧ t.cpu.cc.c = (s.cpu.cc.c || decide (256 ≤ a + six + sixty)) ∧
      t.cpu.cc.h = s.cpu.cc.h ∧ SameMasks s.cpu.cc t.cpu.cc ∧ (t.setA s.cpu.a).setCC s.cpu.cc = s

/-- Decimal addition (42_arithmetic.md R190, R226, R229 (7)): ADDA of two numbers in packed decimal, then DAA, leaves
their decimal sum modulo one hundred and its carry. -/
def Obligations.DecimalAdditionOfTwoDigits : Prop :=
  ∀ (x y : Byte) (s : State), s.cpu.a = x → x.toNat % 16 ≤ 9 → x.toNat / 16 ≤ 9 → y.toNat % 16 ≤ 9 →
    y.toNat / 16 ≤ 9 →
    let value (b : Byte) := b.toNat / 16 * 10 + b.toNat % 16
    ∃ t u, exec (.adda (.imm y)) s = .next t ∧ exec .daa t = .next u ∧
      value u.cpu.a = (value x + value y) % 100 ∧ u.cpu.a.toNat % 16 ≤ 9 ∧
      u.cpu.cc.c = decide (100 ≤ value x + value y)

/-! ## Logic -/

/-- ANDA, ANDB, ORA, ORB, EORA, EORB (43_logic_shift.md R240..R245): bit by bit, with N, Z and V = 0; H and C
unchanged. BITA, BITB (R246, R247): the flags of the AND, and no register. -/
def Obligations.BitwiseAndBitTest : Prop :=
  (∀ p ∈ [(Instr.anda, Acc.a, and), (Instr.andb, Acc.b, and), (Instr.ora, Acc.a, or), (Instr.orb, Acc.b, or),
      (Instr.eora, Acc.a, xor), (Instr.eorb, Acc.b, xor)], ∀ (o : Src8) (s : State),
    ∃ t, exec (p.1 o) s = .next t ∧
      BitwiseSpec p.2.2 (s.acc p.2.1) (operand8 o s).1 (t.acc p.2.1) s.cpu.cc t.cpu.cc ∧
      (t.setAcc p.2.1 (s.acc p.2.1)).setCC s.cpu.cc = (operand8 o s).2 ∧ PlainCellsSame s t) ∧
  (∀ p ∈ [(Instr.bita, Acc.a), (Instr.bitb, Acc.b)], ∀ (o : Src8) (s : State),
    ∃ t r, exec (p.1 o) s = .next t ∧
      BitwiseSpec and (s.acc p.2) (operand8 o s).1 r s.cpu.cc t.cpu.cc ∧
      t.setCC s.cpu.cc = (operand8 o s).2 ∧ PlainCellsSame s t)

/-- ANDCC, ORCC (43_logic_shift.md R251, R252): each flag and its mask bit, E = bit 7, F, H, I, N, Z, V, C = bit 0
(10_state.md R14); nothing else changes. -/
def Obligations.ConditionCodeMasks : Prop :=
  ∀ (m : Byte) (s : State),
    let c := s.cpu.cc
    exec (.andcc m) s = .next (s.setCC
      { e := c.e && m.getLsbD 7, f := c.f && m.getLsbD 6, h := c.h && m.getLsbD 5, i := c.i && m.getLsbD 4,
        n := c.n && m.getLsbD 3, z := c.z && m.getLsbD 2, v := c.v && m.getLsbD 1, c := c.c && m.getLsbD 0 }) ∧
    exec (.orcc m) s = .next (s.setCC
      { e := c.e || m.getLsbD 7, f := c.f || m.getLsbD 6, h := c.h || m.getLsbD 5, i := c.i || m.getLsbD 4,
        n := c.n || m.getLsbD 3, z := c.z || m.getLsbD 2, v := c.v || m.getLsbD 1, c := c.c || m.getLsbD 0 })

/-! ## Branches, jumps, calls -/

/-- The sixteen short and the sixteen long branches (44_branch_jump.md R280..R313): with its condition, PC moves by the
signed offset from the next instruction, modulo 65,536; without, it stays; no flag, register or byte changes. -/
def Obligations.BranchesByCondition : Prop :=
  ∀ p ∈ [(Instr.bra, Instr.lbra, fun _ => True), (Instr.brn, Instr.lbrn, fun _ => False),
      (Instr.bhi, Instr.lbhi, fun c : CC => c.c = false ∧ c.z = false),
      (Instr.bls, Instr.lbls, fun c => c.c = true ∨ c.z = true), (Instr.bcc, Instr.lbcc, fun c => c.c = false),
      (Instr.bcs, Instr.lbcs, fun c => c.c = true), (Instr.bne, Instr.lbne, fun c => c.z = false),
      (Instr.beq, Instr.lbeq, fun c => c.z = true), (Instr.bvc, Instr.lbvc, fun c => c.v = false),
      (Instr.bvs, Instr.lbvs, fun c => c.v = true), (Instr.bpl, Instr.lbpl, fun c => c.n = false),
      (Instr.bmi, Instr.lbmi, fun c => c.n = true), (Instr.bge, Instr.lbge, fun c => c.n = c.v),
      (Instr.blt, Instr.lblt, fun c => c.n ≠ c.v),
      (Instr.bgt, Instr.lbgt, fun c => c.z = false ∧ c.n = c.v),
      (Instr.ble, Instr.lble, fun c => c.z = true ∨ c.n ≠ c.v)], ∀ s : State,
    (∀ off : Byte, ∃ t, exec (p.1 off) s = .next t ∧ t.setPC s.cpu.pc = s ∧
      (p.2.2 s.cpu.cc → (t.cpu.pc.toNat : Int) = (s.cpu.pc.toNat + off.toInt) % 65536) ∧
      (¬ p.2.2 s.cpu.cc → t.cpu.pc = s.cpu.pc)) ∧
    (∀ off : Word, ∃ t, exec (p.2.1 off) s = .next t ∧ t.setPC s.cpu.pc = s ∧
      (p.2.2 s.cpu.cc → (t.cpu.pc.toNat : Int) = (s.cpu.pc.toNat + off.toInt) % 65536) ∧
      (¬ p.2.2 s.cpu.cc → t.cpu.pc = s.cpu.pc))

/-- What a branch after a compare tells (44_branch_jump.md R281, last column): after `CMPA m` the branch is taken
exactly when A stands to m as the table says, without sign for BHI, BLS, BCC, BCS, with sign for BGE, BLT, BGT, BLE.
The offset of the branch is not 0. -/
def Obligations.BranchesAfterCompare : Prop :=
  ∀ p ∈ [(Instr.bhi, fun a m : Byte => m.toNat < a.toNat), (Instr.bls, fun a m => a.toNat ≤ m.toNat),
      (Instr.bcc, fun a m => m.toNat ≤ a.toNat), (Instr.bcs, fun a m => a.toNat < m.toNat),
      (Instr.bne, fun a m => a ≠ m), (Instr.beq, fun a m => a = m), (Instr.bge, fun a m => m.toInt ≤ a.toInt),
      (Instr.blt, fun a m => a.toInt < m.toInt), (Instr.bgt, fun a m => m.toInt < a.toInt),
      (Instr.ble, fun a m => a.toInt ≤ m.toInt)], ∀ (m off : Byte) (s : State), off ≠ 0 →
    ∃ t u, exec (.cmpa (.imm m)) s = .next t ∧ exec (p.1 off) t = .next u ∧
      (u.cpu.pc ≠ s.cpu.pc ↔ p.2 s.cpu.a m)

/-- JMP and NOP (44_branch_jump.md R314, R319): PC takes the effective address and nothing else happens but the
addressing; NOP does nothing. -/
def Obligations.JumpAndNoOperation : Prop :=
  (∀ (m : Mem) (s : State), ∃ t, exec (.jmp m) s = .next t ∧ t.cpu.pc = (ea m s).1 ∧
    t.setPC s.cpu.pc = (ea m s).2 ∧ PlainCellsSame s t) ∧
  (∀ s : State, exec .nop s = .next s)

/-- JSR, BSR, LBSR (44_branch_jump.md R315, R316, R317): the address of the next instruction lies at the new S, high
byte first, and PC is the target, which JSR computes before the push; no flag, no other register, no arming. -/
def Obligations.CallResult : Prop :=
  ∀ (i : Instr) (target : Word) (s q : State),
    ((∃ m, i = .jsr m ∧ target = (ea m s).1 ∧ q = (ea m s).2) ∨
      (∃ off, i = .bsr off ∧ target.toNat = (s.cpu.pc.toNat + off.toInt) % 65536 ∧ q = s) ∨
      (∃ off, i = .lbsr off ∧ target.toNat = (s.cpu.pc.toNat + off.toInt) % 65536 ∧ q = s)) →
    ∃ t, exec i s = .next t ∧ t.cpu = { q.cpu with pc := target, s := q.cpu.s - 2 } ∧ t.ctl = q.ctl ∧ t.dbg = s.dbg ∧
      (s.mem.wf = true → RamHolds t (q.cpu.s - 2) [hi s.cpu.pc, lo s.cpu.pc]) ∧
      PlainCellsSameBut (Within (q.cpu.s - 2) 2) s t

/-- RTS (44_branch_jump.md R318): PC is the word at S, high byte first, and S moves up by two; a call returns to the
instruction after it. -/
def Obligations.ReturnFromSubroutine : Prop :=
  (∀ s : State, ∃ t, exec .rts s = .next t ∧ t.cpu.s = s.cpu.s + 2 ∧ t.setPC s.cpu.pc = (pull16 .system s).2 ∧
    PlainCellsSame s t) ∧
  (∀ s : State, PlainSpan s.cpu.s 2 →
    exec .rts s = .next { s with cpu := { s.cpu with pc := s.word s.cpu.s, s := s.cpu.s + 2 } }) ∧
  (∀ (off : Byte) (s t : State), s.mem.wf = true → cellKind (s.cpu.s - 2) = .ram → cellKind (s.cpu.s - 1) = .ram →
    exec (.bsr off) s = .next t → ∃ u, exec .rts t = .next u ∧ u.cpu = s.cpu)

/-! ## The address map -/

/-- The attribute of every address (20_memory.md R63): RAM, ROM, and the cells of the devices with their callbacks; the
addresses between them that the source does not name are RAM. The boot sequence's own calls leave this map
(70_reset_and_hazards.md R514), and a span past 0xFFFF fails (20_memory.md R67). -/
def Obligations.AddressMapOfTheMachine : Prop :=
  (∀ a : Word,
    (a.toNat ≤ 0x7FFF → cellKind a = .ram) ∧ (0x8000 ≤ a.toNat → a.toNat ≤ 0xFEFF → cellKind a = .rom) ∧
    (0xFF04 ≤ a.toNat → a.toNat ≤ 0xFF1F → cellKind a = .ram) ∧
    (0xFF24 ≤ a.toNat → a.toNat ≤ 0xFFBF → cellKind a = .ram) ∧
    (0xFFC0 ≤ a.toNat → a.toNat ≤ 0xFFDF → cellKind a = .io .samCtl) ∧
    (0xFFE0 ≤ a.toNat → a.toNat ≤ 0xFFF1 → cellKind a = .ram) ∧ (0xFFF2 ≤ a.toNat → cellKind a = .io .samVec) ∧
    (isIo a = true ↔ a.toNat ∈ [0xFF00, 0xFF01, 0xFF02, 0xFF03, 0xFF20, 0xFF21, 0xFF22, 0xFF23] ∨
      (0xFFC0 ≤ a.toNat ∧ a.toNat ≤ 0xFFDF) ∨ 0xFFF2 ≤ a.toNat)) ∧
  cellKind 0xFF00 = .io .pia0Pa ∧ cellKind 0xFF01 = .io .pia0Cra ∧ cellKind 0xFF02 = .io .pia0Pb ∧
  cellKind 0xFF03 = .io .pia0Crb ∧ cellKind 0xFF20 = .io .pia1Pa ∧ cellKind 0xFF21 = .io .pia1Cra ∧
  cellKind 0xFF22 = .io .pia1Pb ∧ cellKind 0xFF23 = .io .pia1Crb ∧
  bootDefines = .next bootMap ∧
  (∀ (first last : Nat) (p : IoPort) (m : AttrMap), 65536 ≤ last →
    defineRom first last m = .fault .addrRange ∧ defineIo first last p m = .fault .addrRange)
end

