-- ==== Sys2Proof/Laws/State.lean ====
section
/-! SUPPORT. One lemma per field per update of the state, each true by `rfl`: a proof rewrites with these and never
unfolds a record update. An update of a register says what the whole register file becomes. -/

namespace Sys2Proof.Machine

@[simp] theorem State.setA_cpu (s : State) (v : Byte) : (s.setA v).cpu = { s.cpu with a := v } := rfl
@[simp] theorem State.setA_ctl (s : State) (v : Byte) : (s.setA v).ctl = s.ctl := rfl
@[simp] theorem State.setA_dbg (s : State) (v : Byte) : (s.setA v).dbg = s.dbg := rfl
@[simp] theorem State.setA_mem (s : State) (v : Byte) : (s.setA v).mem = s.mem := rfl
@[simp] theorem State.setA_sam (s : State) (v : Byte) : (s.setA v).sam = s.sam := rfl
@[simp] theorem State.setA_vdg (s : State) (v : Byte) : (s.setA v).vdg = s.vdg := rfl
@[simp] theorem State.setA_pia0 (s : State) (v : Byte) : (s.setA v).pia0 = s.pia0 := rfl
@[simp] theorem State.setA_pia1 (s : State) (v : Byte) : (s.setA v).pia1 = s.pia1 := rfl
@[simp] theorem State.setA_host (s : State) (v : Byte) : (s.setA v).host = s.host := rfl
@[simp] theorem State.setA_draws (s : State) (v : Byte) : (s.setA v).draws = s.draws := rfl
@[simp] theorem State.setA_out (s : State) (v : Byte) : (s.setA v).out = s.out := rfl

@[simp] theorem State.setB_cpu (s : State) (v : Byte) : (s.setB v).cpu = { s.cpu with b := v } := rfl
@[simp] theorem State.setB_ctl (s : State) (v : Byte) : (s.setB v).ctl = s.ctl := rfl
@[simp] theorem State.setB_dbg (s : State) (v : Byte) : (s.setB v).dbg = s.dbg := rfl
@[simp] theorem State.setB_mem (s : State) (v : Byte) : (s.setB v).mem = s.mem := rfl
@[simp] theorem State.setB_sam (s : State) (v : Byte) : (s.setB v).sam = s.sam := rfl
@[simp] theorem State.setB_vdg (s : State) (v : Byte) : (s.setB v).vdg = s.vdg := rfl
@[simp] theorem State.setB_pia0 (s : State) (v : Byte) : (s.setB v).pia0 = s.pia0 := rfl
@[simp] theorem State.setB_pia1 (s : State) (v : Byte) : (s.setB v).pia1 = s.pia1 := rfl
@[simp] theorem State.setB_host (s : State) (v : Byte) : (s.setB v).host = s.host := rfl
@[simp] theorem State.setB_draws (s : State) (v : Byte) : (s.setB v).draws = s.draws := rfl
@[simp] theorem State.setB_out (s : State) (v : Byte) : (s.setB v).out = s.out := rfl

@[simp] theorem State.setDP_cpu (s : State) (v : Byte) : (s.setDP v).cpu = { s.cpu with dp := v } := rfl
@[simp] theorem State.setDP_ctl (s : State) (v : Byte) : (s.setDP v).ctl = s.ctl := rfl
@[simp] theorem State.setDP_dbg (s : State) (v : Byte) : (s.setDP v).dbg = s.dbg := rfl
@[simp] theorem State.setDP_mem (s : State) (v : Byte) : (s.setDP v).mem = s.mem := rfl
@[simp] theorem State.setDP_sam (s : State) (v : Byte) : (s.setDP v).sam = s.sam := rfl
@[simp] theorem State.setDP_vdg (s : State) (v : Byte) : (s.setDP v).vdg = s.vdg := rfl
@[simp] theorem State.setDP_pia0 (s : State) (v : Byte) : (s.setDP v).pia0 = s.pia0 := rfl
@[simp] theorem State.setDP_pia1 (s : State) (v : Byte) : (s.setDP v).pia1 = s.pia1 := rfl
@[simp] theorem State.setDP_host (s : State) (v : Byte) : (s.setDP v).host = s.host := rfl
@[simp] theorem State.setDP_draws (s : State) (v : Byte) : (s.setDP v).draws = s.draws := rfl
@[simp] theorem State.setDP_out (s : State) (v : Byte) : (s.setDP v).out = s.out := rfl

@[simp] theorem State.setX_cpu (s : State) (v : Word) : (s.setX v).cpu = { s.cpu with x := v } := rfl
@[simp] theorem State.setX_ctl (s : State) (v : Word) : (s.setX v).ctl = s.ctl := rfl
@[simp] theorem State.setX_dbg (s : State) (v : Word) : (s.setX v).dbg = s.dbg := rfl
@[simp] theorem State.setX_mem (s : State) (v : Word) : (s.setX v).mem = s.mem := rfl
@[simp] theorem State.setX_sam (s : State) (v : Word) : (s.setX v).sam = s.sam := rfl
@[simp] theorem State.setX_vdg (s : State) (v : Word) : (s.setX v).vdg = s.vdg := rfl
@[simp] theorem State.setX_pia0 (s : State) (v : Word) : (s.setX v).pia0 = s.pia0 := rfl
@[simp] theorem State.setX_pia1 (s : State) (v : Word) : (s.setX v).pia1 = s.pia1 := rfl
@[simp] theorem State.setX_host (s : State) (v : Word) : (s.setX v).host = s.host := rfl
@[simp] theorem State.setX_draws (s : State) (v : Word) : (s.setX v).draws = s.draws := rfl
@[simp] theorem State.setX_out (s : State) (v : Word) : (s.setX v).out = s.out := rfl

@[simp] theorem State.setY_cpu (s : State) (v : Word) : (s.setY v).cpu = { s.cpu with y := v } := rfl
@[simp] theorem State.setY_ctl (s : State) (v : Word) : (s.setY v).ctl = s.ctl := rfl
@[simp] theorem State.setY_dbg (s : State) (v : Word) : (s.setY v).dbg = s.dbg := rfl
@[simp] theorem State.setY_mem (s : State) (v : Word) : (s.setY v).mem = s.mem := rfl
@[simp] theorem State.setY_sam (s : State) (v : Word) : (s.setY v).sam = s.sam := rfl
@[simp] theorem State.setY_vdg (s : State) (v : Word) : (s.setY v).vdg = s.vdg := rfl
@[simp] theorem State.setY_pia0 (s : State) (v : Word) : (s.setY v).pia0 = s.pia0 := rfl
@[simp] theorem State.setY_pia1 (s : State) (v : Word) : (s.setY v).pia1 = s.pia1 := rfl
@[simp] theorem State.setY_host (s : State) (v : Word) : (s.setY v).host = s.host := rfl
@[simp] theorem State.setY_draws (s : State) (v : Word) : (s.setY v).draws = s.draws := rfl
@[simp] theorem State.setY_out (s : State) (v : Word) : (s.setY v).out = s.out := rfl

@[simp] theorem State.setU_cpu (s : State) (v : Word) : (s.setU v).cpu = { s.cpu with u := v } := rfl
@[simp] theorem State.setU_ctl (s : State) (v : Word) : (s.setU v).ctl = s.ctl := rfl
@[simp] theorem State.setU_dbg (s : State) (v : Word) : (s.setU v).dbg = s.dbg := rfl
@[simp] theorem State.setU_mem (s : State) (v : Word) : (s.setU v).mem = s.mem := rfl
@[simp] theorem State.setU_sam (s : State) (v : Word) : (s.setU v).sam = s.sam := rfl
@[simp] theorem State.setU_vdg (s : State) (v : Word) : (s.setU v).vdg = s.vdg := rfl
@[simp] theorem State.setU_pia0 (s : State) (v : Word) : (s.setU v).pia0 = s.pia0 := rfl
@[simp] theorem State.setU_pia1 (s : State) (v : Word) : (s.setU v).pia1 = s.pia1 := rfl
@[simp] theorem State.setU_host (s : State) (v : Word) : (s.setU v).host = s.host := rfl
@[simp] theorem State.setU_draws (s : State) (v : Word) : (s.setU v).draws = s.draws := rfl
@[simp] theorem State.setU_out (s : State) (v : Word) : (s.setU v).out = s.out := rfl

@[simp] theorem State.setS_cpu (s : State) (v : Word) : (s.setS v).cpu = { s.cpu with s := v } := rfl
@[simp] theorem State.setS_ctl (s : State) (v : Word) : (s.setS v).ctl = s.ctl := rfl
@[simp] theorem State.setS_dbg (s : State) (v : Word) : (s.setS v).dbg = s.dbg := rfl
@[simp] theorem State.setS_mem (s : State) (v : Word) : (s.setS v).mem = s.mem := rfl
@[simp] theorem State.setS_sam (s : State) (v : Word) : (s.setS v).sam = s.sam := rfl
@[simp] theorem State.setS_vdg (s : State) (v : Word) : (s.setS v).vdg = s.vdg := rfl
@[simp] theorem State.setS_pia0 (s : State) (v : Word) : (s.setS v).pia0 = s.pia0 := rfl
@[simp] theorem State.setS_pia1 (s : State) (v : Word) : (s.setS v).pia1 = s.pia1 := rfl
@[simp] theorem State.setS_host (s : State) (v : Word) : (s.setS v).host = s.host := rfl
@[simp] theorem State.setS_draws (s : State) (v : Word) : (s.setS v).draws = s.draws := rfl
@[simp] theorem State.setS_out (s : State) (v : Word) : (s.setS v).out = s.out := rfl

@[simp] theorem State.setPC_cpu (s : State) (v : Word) : (s.setPC v).cpu = { s.cpu with pc := v } := rfl
@[simp] theorem State.setPC_ctl (s : State) (v : Word) : (s.setPC v).ctl = s.ctl := rfl
@[simp] theorem State.setPC_dbg (s : State) (v : Word) : (s.setPC v).dbg = s.dbg := rfl
@[simp] theorem State.setPC_mem (s : State) (v : Word) : (s.setPC v).mem = s.mem := rfl
@[simp] theorem State.setPC_sam (s : State) (v : Word) : (s.setPC v).sam = s.sam := rfl
@[simp] theorem State.setPC_vdg (s : State) (v : Word) : (s.setPC v).vdg = s.vdg := rfl
@[simp] theorem State.setPC_pia0 (s : State) (v : Word) : (s.setPC v).pia0 = s.pia0 := rfl
@[simp] theorem State.setPC_pia1 (s : State) (v : Word) : (s.setPC v).pia1 = s.pia1 := rfl
@[simp] theorem State.setPC_host (s : State) (v : Word) : (s.setPC v).host = s.host := rfl
@[simp] theorem State.setPC_draws (s : State) (v : Word) : (s.setPC v).draws = s.draws := rfl
@[simp] theorem State.setPC_out (s : State) (v : Word) : (s.setPC v).out = s.out := rfl

@[simp] theorem State.setCC_cpu (s : State) (v : CC) : (s.setCC v).cpu = { s.cpu with cc := v } := rfl
@[simp] theorem State.setCC_ctl (s : State) (v : CC) : (s.setCC v).ctl = s.ctl := rfl
@[simp] theorem State.setCC_dbg (s : State) (v : CC) : (s.setCC v).dbg = s.dbg := rfl
@[simp] theorem State.setCC_mem (s : State) (v : CC) : (s.setCC v).mem = s.mem := rfl
@[simp] theorem State.setCC_sam (s : State) (v : CC) : (s.setCC v).sam = s.sam := rfl
@[simp] theorem State.setCC_vdg (s : State) (v : CC) : (s.setCC v).vdg = s.vdg := rfl
@[simp] theorem State.setCC_pia0 (s : State) (v : CC) : (s.setCC v).pia0 = s.pia0 := rfl
@[simp] theorem State.setCC_pia1 (s : State) (v : CC) : (s.setCC v).pia1 = s.pia1 := rfl
@[simp] theorem State.setCC_host (s : State) (v : CC) : (s.setCC v).host = s.host := rfl
@[simp] theorem State.setCC_draws (s : State) (v : CC) : (s.setCC v).draws = s.draws := rfl
@[simp] theorem State.setCC_out (s : State) (v : CC) : (s.setCC v).out = s.out := rfl

@[simp] theorem State.setD_cpu (s : State) (w : Word) : (s.setD w).cpu = { s.cpu with a := hi w, b := lo w } := rfl
@[simp] theorem State.setD_ctl (s : State) (w : Word) : (s.setD w).ctl = s.ctl := rfl
@[simp] theorem State.setD_dbg (s : State) (w : Word) : (s.setD w).dbg = s.dbg := rfl
@[simp] theorem State.setD_mem (s : State) (w : Word) : (s.setD w).mem = s.mem := rfl
@[simp] theorem State.setD_sam (s : State) (w : Word) : (s.setD w).sam = s.sam := rfl
@[simp] theorem State.setD_vdg (s : State) (w : Word) : (s.setD w).vdg = s.vdg := rfl
@[simp] theorem State.setD_pia0 (s : State) (w : Word) : (s.setD w).pia0 = s.pia0 := rfl
@[simp] theorem State.setD_pia1 (s : State) (w : Word) : (s.setD w).pia1 = s.pia1 := rfl
@[simp] theorem State.setD_host (s : State) (w : Word) : (s.setD w).host = s.host := rfl
@[simp] theorem State.setD_draws (s : State) (w : Word) : (s.setD w).draws = s.draws := rfl
@[simp] theorem State.setD_out (s : State) (w : Word) : (s.setD w).out = s.out := rfl

@[simp] theorem State.setRunState_cpu (s : State) (r : RunState) : (s.setRunState r).cpu = s.cpu := rfl
@[simp] theorem State.setRunState_ctl (s : State) (r : RunState) :
    (s.setRunState r).ctl = { s.ctl with runState := r } := rfl
@[simp] theorem State.setRunState_dbg (s : State) (r : RunState) : (s.setRunState r).dbg = s.dbg := rfl
@[simp] theorem State.setRunState_mem (s : State) (r : RunState) : (s.setRunState r).mem = s.mem := rfl
@[simp] theorem State.setRunState_sam (s : State) (r : RunState) : (s.setRunState r).sam = s.sam := rfl
@[simp] theorem State.setRunState_vdg (s : State) (r : RunState) : (s.setRunState r).vdg = s.vdg := rfl
@[simp] theorem State.setRunState_pia0 (s : State) (r : RunState) : (s.setRunState r).pia0 = s.pia0 := rfl
@[simp] theorem State.setRunState_pia1 (s : State) (r : RunState) : (s.setRunState r).pia1 = s.pia1 := rfl
@[simp] theorem State.setRunState_host (s : State) (r : RunState) : (s.setRunState r).host = s.host := rfl
@[simp] theorem State.setRunState_draws (s : State) (r : RunState) : (s.setRunState r).draws = s.draws := rfl
@[simp] theorem State.setRunState_out (s : State) (r : RunState) : (s.setRunState r).out = s.out := rfl

@[simp] theorem State.setCwaiStacked_cpu (s : State) (b : Bool) : (s.setCwaiStacked b).cpu = s.cpu := rfl
@[simp] theorem State.setCwaiStacked_ctl (s : State) (b : Bool) :
    (s.setCwaiStacked b).ctl = { s.ctl with cwaiStacked := b } := rfl
@[simp] theorem State.setCwaiStacked_dbg (s : State) (b : Bool) : (s.setCwaiStacked b).dbg = s.dbg := rfl
@[simp] theorem State.setCwaiStacked_mem (s : State) (b : Bool) : (s.setCwaiStacked b).mem = s.mem := rfl
@[simp] theorem State.setCwaiStacked_sam (s : State) (b : Bool) : (s.setCwaiStacked b).sam = s.sam := rfl
@[simp] theorem State.setCwaiStacked_vdg (s : State) (b : Bool) : (s.setCwaiStacked b).vdg = s.vdg := rfl
@[simp] theorem State.setCwaiStacked_pia0 (s : State) (b : Bool) : (s.setCwaiStacked b).pia0 = s.pia0 := rfl
@[simp] theorem State.setCwaiStacked_pia1 (s : State) (b : Bool) : (s.setCwaiStacked b).pia1 = s.pia1 := rfl
@[simp] theorem State.setCwaiStacked_host (s : State) (b : Bool) : (s.setCwaiStacked b).host = s.host := rfl
@[simp] theorem State.setCwaiStacked_draws (s : State) (b : Bool) : (s.setCwaiStacked b).draws = s.draws := rfl
@[simp] theorem State.setCwaiStacked_out (s : State) (b : Bool) : (s.setCwaiStacked b).out = s.out := rfl

@[simp] theorem State.armNmi_cpu (s : State) : s.armNmi.cpu = s.cpu := rfl
@[simp] theorem State.armNmi_ctl (s : State) : s.armNmi.ctl = { s.ctl with nmiArmed := true } := rfl
@[simp] theorem State.armNmi_dbg (s : State) : s.armNmi.dbg = s.dbg := rfl
@[simp] theorem State.armNmi_mem (s : State) : s.armNmi.mem = s.mem := rfl
@[simp] theorem State.armNmi_sam (s : State) : s.armNmi.sam = s.sam := rfl
@[simp] theorem State.armNmi_vdg (s : State) : s.armNmi.vdg = s.vdg := rfl
@[simp] theorem State.armNmi_pia0 (s : State) : s.armNmi.pia0 = s.pia0 := rfl
@[simp] theorem State.armNmi_pia1 (s : State) : s.armNmi.pia1 = s.pia1 := rfl
@[simp] theorem State.armNmi_host (s : State) : s.armNmi.host = s.host := rfl
@[simp] theorem State.armNmi_draws (s : State) : s.armNmi.draws = s.draws := rfl
@[simp] theorem State.armNmi_out (s : State) : s.armNmi.out = s.out := rfl

@[simp] theorem State.setIrq_cpu (s : State) (b : Bool) : (s.setIrq b).cpu = s.cpu := rfl
@[simp] theorem State.setIrq_ctl (s : State) (b : Bool) : (s.setIrq b).ctl = { s.ctl with irqIn := b } := rfl
@[simp] theorem State.setIrq_dbg (s : State) (b : Bool) : (s.setIrq b).dbg = s.dbg := rfl
@[simp] theorem State.setIrq_mem (s : State) (b : Bool) : (s.setIrq b).mem = s.mem := rfl
@[simp] theorem State.setIrq_sam (s : State) (b : Bool) : (s.setIrq b).sam = s.sam := rfl
@[simp] theorem State.setIrq_vdg (s : State) (b : Bool) : (s.setIrq b).vdg = s.vdg := rfl
@[simp] theorem State.setIrq_pia0 (s : State) (b : Bool) : (s.setIrq b).pia0 = s.pia0 := rfl
@[simp] theorem State.setIrq_pia1 (s : State) (b : Bool) : (s.setIrq b).pia1 = s.pia1 := rfl
@[simp] theorem State.setIrq_host (s : State) (b : Bool) : (s.setIrq b).host = s.host := rfl
@[simp] theorem State.setIrq_draws (s : State) (b : Bool) : (s.setIrq b).draws = s.draws := rfl
@[simp] theorem State.setIrq_out (s : State) (b : Bool) : (s.setIrq b).out = s.out := rfl

@[simp] theorem State.drawn_cpu (s : State) : s.drawn.cpu = s.cpu := rfl
@[simp] theorem State.drawn_ctl (s : State) : s.drawn.ctl = s.ctl := rfl
@[simp] theorem State.drawn_dbg (s : State) : s.drawn.dbg = s.dbg := rfl
@[simp] theorem State.drawn_mem (s : State) : s.drawn.mem = s.mem := rfl
@[simp] theorem State.drawn_sam (s : State) : s.drawn.sam = s.sam := rfl
@[simp] theorem State.drawn_vdg (s : State) : s.drawn.vdg = s.vdg := rfl
@[simp] theorem State.drawn_pia0 (s : State) : s.drawn.pia0 = s.pia0 := rfl
@[simp] theorem State.drawn_pia1 (s : State) : s.drawn.pia1 = s.pia1 := rfl
@[simp] theorem State.drawn_host (s : State) : s.drawn.host = s.host := rfl
@[simp] theorem State.drawn_draws (s : State) : s.drawn.draws = s.draws + 1 := rfl
@[simp] theorem State.drawn_out (s : State) : s.drawn.out = s.out := rfl

@[simp] theorem State.emit_cpu (s : State) (o : HostOutput) : (s.emit o).cpu = s.cpu := rfl
@[simp] theorem State.emit_ctl (s : State) (o : HostOutput) : (s.emit o).ctl = s.ctl := rfl
@[simp] theorem State.emit_dbg (s : State) (o : HostOutput) : (s.emit o).dbg = s.dbg := rfl
@[simp] theorem State.emit_mem (s : State) (o : HostOutput) : (s.emit o).mem = s.mem := rfl
@[simp] theorem State.emit_sam (s : State) (o : HostOutput) : (s.emit o).sam = s.sam := rfl
@[simp] theorem State.emit_vdg (s : State) (o : HostOutput) : (s.emit o).vdg = s.vdg := rfl
@[simp] theorem State.emit_pia0 (s : State) (o : HostOutput) : (s.emit o).pia0 = s.pia0 := rfl
@[simp] theorem State.emit_pia1 (s : State) (o : HostOutput) : (s.emit o).pia1 = s.pia1 := rfl
@[simp] theorem State.emit_host (s : State) (o : HostOutput) : (s.emit o).host = s.host := rfl
@[simp] theorem State.emit_draws (s : State) (o : HostOutput) : (s.emit o).draws = s.draws := rfl
@[simp] theorem State.emit_out (s : State) (o : HostOutput) : (s.emit o).out = o :: s.out := rfl

@[simp] theorem State.setFb_cpu (s : State) (fb : Framebuffer) : (s.setFb fb).cpu = s.cpu := rfl
@[simp] theorem State.setFb_ctl (s : State) (fb : Framebuffer) : (s.setFb fb).ctl = s.ctl := rfl
@[simp] theorem State.setFb_dbg (s : State) (fb : Framebuffer) : (s.setFb fb).dbg = s.dbg := rfl
@[simp] theorem State.setFb_mem (s : State) (fb : Framebuffer) : (s.setFb fb).mem = s.mem := rfl
@[simp] theorem State.setFb_sam (s : State) (fb : Framebuffer) : (s.setFb fb).sam = s.sam := rfl
@[simp] theorem State.setFb_vdg (s : State) (fb : Framebuffer) : (s.setFb fb).vdg = s.vdg := rfl
@[simp] theorem State.setFb_pia0 (s : State) (fb : Framebuffer) : (s.setFb fb).pia0 = s.pia0 := rfl
@[simp] theorem State.setFb_pia1 (s : State) (fb : Framebuffer) : (s.setFb fb).pia1 = s.pia1 := rfl
@[simp] theorem State.setFb_host (s : State) (fb : Framebuffer) : (s.setFb fb).host = { s.host with fb := fb } := rfl
@[simp] theorem State.setFb_draws (s : State) (fb : Framebuffer) : (s.setFb fb).draws = s.draws := rfl
@[simp] theorem State.setFb_out (s : State) (fb : Framebuffer) : (s.setFb fb).out = s.out := rfl

@[simp] theorem State.setCell_cpu (s : State) (a : Word) (v : Byte) : (s.setCell a v).cpu = s.cpu := rfl
@[simp] theorem State.setCell_ctl (s : State) (a : Word) (v : Byte) : (s.setCell a v).ctl = s.ctl := rfl
@[simp] theorem State.setCell_dbg (s : State) (a : Word) (v : Byte) : (s.setCell a v).dbg = s.dbg := rfl
@[simp] theorem State.setCell_mem (s : State) (a : Word) (v : Byte) :
    (s.setCell a v).mem = Memory.write s.mem a.toNat v := rfl
@[simp] theorem State.setCell_sam (s : State) (a : Word) (v : Byte) : (s.setCell a v).sam = s.sam := rfl
@[simp] theorem State.setCell_vdg (s : State) (a : Word) (v : Byte) : (s.setCell a v).vdg = s.vdg := rfl
@[simp] theorem State.setCell_pia0 (s : State) (a : Word) (v : Byte) : (s.setCell a v).pia0 = s.pia0 := rfl
@[simp] theorem State.setCell_pia1 (s : State) (a : Word) (v : Byte) : (s.setCell a v).pia1 = s.pia1 := rfl
@[simp] theorem State.setCell_host (s : State) (a : Word) (v : Byte) : (s.setCell a v).host = s.host := rfl
@[simp] theorem State.setCell_draws (s : State) (a : Word) (v : Byte) : (s.setCell a v).draws = s.draws := rfl
@[simp] theorem State.setCell_out (s : State) (a : Word) (v : Byte) : (s.setCell a v).out = s.out := rfl

/-! ## Cells -/

@[simp] theorem State.cell_setA (s : State) (v : Byte) (a : Word) : (s.setA v).cell a = s.cell a := rfl
@[simp] theorem State.cell_setB (s : State) (v : Byte) (a : Word) : (s.setB v).cell a = s.cell a := rfl
@[simp] theorem State.cell_setD (s : State) (v : Word) (a : Word) : (s.setD v).cell a = s.cell a := rfl
@[simp] theorem State.cell_setDP (s : State) (v : Byte) (a : Word) : (s.setDP v).cell a = s.cell a := rfl
@[simp] theorem State.cell_setX (s : State) (v : Word) (a : Word) : (s.setX v).cell a = s.cell a := rfl
@[simp] theorem State.cell_setY (s : State) (v : Word) (a : Word) : (s.setY v).cell a = s.cell a := rfl
@[simp] theorem State.cell_setU (s : State) (v : Word) (a : Word) : (s.setU v).cell a = s.cell a := rfl
@[simp] theorem State.cell_setS (s : State) (v : Word) (a : Word) : (s.setS v).cell a = s.cell a := rfl
@[simp] theorem State.cell_setPC (s : State) (v : Word) (a : Word) : (s.setPC v).cell a = s.cell a := rfl
@[simp] theorem State.cell_setCC (s : State) (v : CC) (a : Word) : (s.setCC v).cell a = s.cell a := rfl
@[simp] theorem State.cell_setRunState (s : State) (r : RunState) (a : Word) :
    (s.setRunState r).cell a = s.cell a := rfl
@[simp] theorem State.cell_setCwaiStacked (s : State) (b : Bool) (a : Word) :
    (s.setCwaiStacked b).cell a = s.cell a := rfl
@[simp] theorem State.cell_armNmi (s : State) (a : Word) : s.armNmi.cell a = s.cell a := rfl
@[simp] theorem State.cell_setIrq (s : State) (b : Bool) (a : Word) : (s.setIrq b).cell a = s.cell a := rfl
@[simp] theorem State.cell_drawn (s : State) (a : Word) : s.drawn.cell a = s.cell a := rfl
@[simp] theorem State.cell_setFb (s : State) (fb : Framebuffer) (a : Word) : (s.setFb fb).cell a = s.cell a := rfl
@[simp] theorem State.cell_emit (s : State) (o : HostOutput) (a : Word) : (s.emit o).cell a = s.cell a := rfl

/-! ## Packing the condition codes -/

@[simp] theorem unpack_packCC (cc : CC) : unpackCC (packCC cc) = cc := by
  obtain ⟨e, f, h, i, n, z, v, c⟩ := cc
  revert e f h i n z v c
  decide

@[simp] theorem pack_unpackCC (b : Byte) : packCC (unpackCC b) = b := by
  revert b
  decide

end Sys2Proof.Machine
end

