-- ==== Sys2Proof/Laws/Memory.lean ====
section
/-! SUPPORT. The cell data: a write is read back, leaves every other address alone, and keeps the canonical form. -/

namespace Sys2Proof.Machine

/-- In canonical form, an address below the first listed one reads as unlisted. -/
theorem Memory.read_of_lt {m : Memory} {n a : Nat} (h : Memory.wfFrom n m = true) (ha : a < n) :
    Memory.read m a = unlisted a := by
  induction m generalizing n with
  | nil => rfl
  | cons c m ih =>
    obtain ⟨b, w⟩ := c
    simp only [Memory.wfFrom, Bool.and_eq_true, decide_eq_true_eq] at h
    obtain ⟨⟨⟨hb, -⟩, -⟩, hm⟩ := h
    rw [Memory.read, if_neg (by omega)]
    exact ih hm (by omega)

theorem Memory.wfFrom_mono {m : Memory} {n k : Nat} (h : Memory.wfFrom n m = true) (hk : k ≤ n) :
    Memory.wfFrom k m = true := by
  cases m with
  | nil => rfl
  | cons c m =>
    obtain ⟨b, w⟩ := c
    simp only [Memory.wfFrom, Bool.and_eq_true, decide_eq_true_eq] at h ⊢
    exact ⟨⟨⟨by omega, h.1.1.2⟩, h.1.2⟩, h.2⟩

/-- A write keeps the canonical form. -/
theorem Memory.wfFrom_write {m : Memory} {n a : Nat} {v : Byte} (h : Memory.wfFrom n m = true) (hn : n ≤ a)
    (ha : a < 65536) : Memory.wfFrom n (Memory.write m a v) = true := by
  induction m generalizing n with
  | nil =>
    simp only [Memory.write]
    split
    · rfl
    · simp_all [Memory.wfFrom]
  | cons c m ih =>
    obtain ⟨b, w⟩ := c
    have h' := h
    simp only [Memory.wfFrom, Bool.and_eq_true, decide_eq_true_eq] at h
    obtain ⟨⟨⟨hb, hlt⟩, hw⟩, hm⟩ := h
    simp only [Memory.write]
    split
    · split
      · exact h'
      · simp_all [Memory.wfFrom]
    · split
      · split
        · exact Memory.wfFrom_mono hm (by omega)
        · simp_all [Memory.wfFrom]
      · have := ih hm (by omega)
        simp_all [Memory.wfFrom]

theorem Memory.wf_write {m : Memory} {a : Nat} {v : Byte} (h : m.wf = true) (ha : a < 65536) :
    (Memory.write m a v).wf = true :=
  Memory.wfFrom_write h (Nat.zero_le a) ha

/-- In canonical form, a written byte is read back. -/
theorem Memory.read_write_same {m : Memory} {n a : Nat} {v : Byte} (h : Memory.wfFrom n m = true) :
    Memory.read (Memory.write m a v) a = v := by
  induction m generalizing n with
  | nil =>
    simp only [Memory.write]
    split <;> simp_all [Memory.read]
  | cons c m ih =>
    obtain ⟨b, w⟩ := c
    simp only [Memory.wfFrom, Bool.and_eq_true, decide_eq_true_eq] at h
    obtain ⟨-, hm⟩ := h
    simp only [Memory.write]
    split
    · split
      · rename_i hab hv
        rw [Memory.read, if_neg (by omega), Memory.read_of_lt hm (by omega), hv]
      · simp [Memory.read]
    · split
      · rename_i hab
        split
        · rename_i hv
          rw [Memory.read_of_lt hm (by omega), hv]
        · simp [Memory.read]
      · rw [Memory.read, if_neg (by omega)]
        exact ih hm

/-- A write leaves every other address alone. -/
theorem Memory.read_write_other {m : Memory} {a b : Nat} {v : Byte} (hab : b ≠ a) :
    Memory.read (Memory.write m a v) b = Memory.read m b := by
  induction m with
  | nil =>
    simp only [Memory.write]
    split <;> simp_all [Memory.read, Ne.symm hab]
  | cons c m ih =>
    obtain ⟨k, w⟩ := c
    simp only [Memory.write]
    split
    · split
      · rfl
      · rw [Memory.read, if_neg (Ne.symm hab)]
    · split
      · rename_i hk
        subst hk
        split
        · rw [Memory.read, if_neg (Ne.symm hab)]
        · rw [Memory.read, Memory.read, if_neg (Ne.symm hab), if_neg (Ne.symm hab)]
      · rw [Memory.read, Memory.read, ih]

theorem State.cell_setCell_same {s : State} {a : Word} {v : Byte} (h : s.mem.wf = true) :
    (s.setCell a v).cell a = v :=
  Memory.read_write_same h

theorem State.cell_setCell_other {s : State} {a b : Word} {v : Byte} (hab : b ≠ a) :
    (s.setCell a v).cell b = s.cell b :=
  Memory.read_write_other fun h => hab (BitVec.eq_of_toNat_eq h)

theorem State.wf_setCell {s : State} {a : Word} {v : Byte} (h : s.mem.wf = true) :
    (s.setCell a v).mem.wf = true :=
  Memory.wf_write h a.isLt

end Sys2Proof.Machine
end

