-- ==== Sys2Proof/Laws/Fabric.lean ====
section
/-! SUPPORT. What one access of the fabric can do (20_memory.md R52, R53): a read changes no register and no cell
without a callback; a write changes at most the addressed cell among those. -/

namespace Sys2Proof.Machine

/-! ## The address map -/

theorem cellKind_rom {a : Word} (h1 : 0x8000 ≤ a.toNat) (h2 : a.toNat ≤ 0xFEFF) : cellKind a = .rom := by
  simp only [cellKind, bootMap, attrOf]
  repeat rw [if_neg (by omega)]
  rw [if_pos (by omega)]

theorem cellKind_ram_low {a : Word} (h : a.toNat < 0x8000) : cellKind a = .ram := by
  simp only [cellKind, bootMap, attrOf]
  repeat rw [if_neg (by omega)]

theorem isIo_rom {a : Word} (h : cellKind a = .rom) : isIo a = false := by simp [isIo, h]
theorem isIo_ram {a : Word} (h : cellKind a = .ram) : isIo a = false := by simp [isIo, h]
theorem isIo_io {a : Word} {p : IoPort} (h : cellKind a = .io p) : isIo a = true := by simp [isIo, h]

theorem isIo_false {a : Word} (h : isIo a = false) : cellKind a = .ram ∨ cellKind a = .rom := by
  unfold isIo at h
  split at h
  · exact .inl ‹_›
  · exact .inr ‹_›
  · cases h

theorem ne_of_isIo {a b : Word} (ha : isIo a = false) (hb : isIo b = true) : a ≠ b := by
  rintro rfl
  simp_all

/-! ## Reads -/

/-- A cell without a callback: its data, and nothing happens. -/
theorem read8_plain {a : Word} (h : isIo a = false) (s : State) : read8 a s = (s.cell a, s) := by
  obtain h | h := isIo_false h <;> simp [read8, h]

theorem joystkComp_same (s : State) :
    (joystkComp s).2.cpu = s.cpu ∧ (joystkComp s).2.ctl = s.ctl ∧ (joystkComp s).2.dbg = s.dbg ∧
    (joystkComp s).2.mem = s.mem ∧ (joystkComp s).2.sam = s.sam ∧ (joystkComp s).2.vdg = s.vdg ∧
    (joystkComp s).2.pia0 = s.pia0 ∧ (joystkComp s).2.pia1 = s.pia1 := by
  unfold joystkComp; split <;> simp [State.drawBit]

theorem rjoystkButton_same (s : State) :
    (rjoystkButton s).2.cpu = s.cpu ∧ (rjoystkButton s).2.ctl = s.ctl ∧ (rjoystkButton s).2.dbg = s.dbg ∧
    (rjoystkButton s).2.mem = s.mem ∧ (rjoystkButton s).2.sam = s.sam ∧ (rjoystkButton s).2.vdg = s.vdg ∧
    (rjoystkButton s).2.pia0 = s.pia0 ∧ (rjoystkButton s).2.pia1 = s.pia1 := by
  unfold rjoystkButton; split <;> simp [State.drawBit]

theorem keyboardRead_same (s : State) :
    (keyboardRead s).2.cpu = s.cpu ∧ (keyboardRead s).2.ctl = s.ctl ∧ (keyboardRead s).2.dbg = s.dbg ∧
    (keyboardRead s).2.mem = s.mem ∧ (keyboardRead s).2.sam = s.sam ∧ (keyboardRead s).2.vdg = s.vdg ∧
    (keyboardRead s).2.pia0 = s.pia0 ∧ (keyboardRead s).2.pia1 = s.pia1 := by
  unfold keyboardRead; split <;> simp

@[simp] theorem ioRead_cpu (p : IoPort) (a : Word) (s : State) : (ioRead p a s).2.cpu = s.cpu := by
  cases p <;> simp [ioRead, pia0PaRead, pia0PbRead, pia1PaRead, samCtlRead, samVecRead, State.drawByte,
    joystkComp_same, rjoystkButton_same]

@[simp] theorem ioRead_dbg (p : IoPort) (a : Word) (s : State) : (ioRead p a s).2.dbg = s.dbg := by
  cases p <;> simp [ioRead, pia0PaRead, pia0PbRead, pia1PaRead, samCtlRead, samVecRead, State.drawByte,
    joystkComp_same, rjoystkButton_same]

@[simp] theorem ioRead_sam (p : IoPort) (a : Word) (s : State) : (ioRead p a s).2.sam = s.sam := by
  cases p <;> simp [ioRead, pia0PaRead, pia0PbRead, pia1PaRead, samCtlRead, samVecRead, State.drawByte,
    joystkComp_same, rjoystkButton_same]

@[simp] theorem ioRead_vdg (p : IoPort) (a : Word) (s : State) : (ioRead p a s).2.vdg = s.vdg := by
  cases p <;> simp [ioRead, pia0PaRead, pia0PbRead, pia1PaRead, samCtlRead, samVecRead, State.drawByte,
    joystkComp_same, rjoystkButton_same]

@[simp] theorem ioRead_pia0 (p : IoPort) (a : Word) (s : State) : (ioRead p a s).2.pia0 = s.pia0 := by
  cases p <;> simp [ioRead, pia0PaRead, pia0PbRead, pia1PaRead, samCtlRead, samVecRead, State.drawByte,
    joystkComp_same, rjoystkButton_same]

/-- A read can only drop IRQ (48_dev_pia0.md R406). -/
theorem ioRead_ctl (p : IoPort) (a : Word) (s : State) :
    (ioRead p a s).2.ctl = s.ctl ∨ (ioRead p a s).2.ctl = { s.ctl with irqIn := false } := by
  cases p <;> simp [ioRead, pia0PaRead, pia0PbRead, pia1PaRead, samCtlRead, samVecRead, State.drawByte,
    joystkComp_same, rjoystkButton_same]

/-- The callbacks change no cell but PIA0's CRB (48_dev_pia0.md R406). -/
theorem ioRead_mem (p : IoPort) (a : Word) (s : State) :
    (ioRead p a s).2.mem = s.mem ∨
    (ioRead p a s).2.mem = Memory.write s.mem 0xFF03 (s.cell 0xFF03 &&& 0x7F) := by
  cases p <;> simp [ioRead, pia0PaRead, pia0PbRead, pia1PaRead, samCtlRead, samVecRead, State.drawByte,
    joystkComp_same, rjoystkButton_same]

@[simp] theorem read8_cpu (a : Word) (s : State) : (read8 a s).2.cpu = s.cpu := by
  unfold read8; split <;> simp
@[simp] theorem read8_dbg (a : Word) (s : State) : (read8 a s).2.dbg = s.dbg := by
  unfold read8; split <;> simp
@[simp] theorem read8_sam (a : Word) (s : State) : (read8 a s).2.sam = s.sam := by
  unfold read8; split <;> simp
@[simp] theorem read8_vdg (a : Word) (s : State) : (read8 a s).2.vdg = s.vdg := by
  unfold read8; split <;> simp
@[simp] theorem read8_pia0 (a : Word) (s : State) : (read8 a s).2.pia0 = s.pia0 := by
  unfold read8; split <;> simp

theorem read8_ctl (a : Word) (s : State) :
    (read8 a s).2.ctl = s.ctl ∨ (read8 a s).2.ctl = { s.ctl with irqIn := false } := by
  unfold read8
  split
  · exact .inl rfl
  · exact .inl rfl
  · simpa using ioRead_ctl _ a s

@[simp] theorem read8_runState (a : Word) (s : State) : (read8 a s).2.ctl.runState = s.ctl.runState := by
  obtain h | h := read8_ctl a s <;> simp [h]
@[simp] theorem read8_cwaiStacked (a : Word) (s : State) : (read8 a s).2.ctl.cwaiStacked = s.ctl.cwaiStacked := by
  obtain h | h := read8_ctl a s <;> simp [h]
@[simp] theorem read8_nmiArmed (a : Word) (s : State) : (read8 a s).2.ctl.nmiArmed = s.ctl.nmiArmed := by
  obtain h | h := read8_ctl a s <;> simp [h]

/-- A read changes no cell that has no callback. -/
theorem read8_cell {a b : Word} (hb : isIo b = false) (s : State) : (read8 a s).2.cell b = s.cell b := by
  unfold read8
  split
  · rfl
  · rfl
  · rename_i p hp
    rw [State.cell_setCell_other (ne_of_isIo hb (isIo_io hp))]
    unfold State.cell
    obtain h | h := ioRead_mem p a s
    · rw [h]
    · rw [h, Memory.read_write_other]
      exact fun hh => ne_of_isIo hb (b := 0xFF03) (by decide) (BitVec.eq_of_toNat_eq (by simpa using hh))

theorem read8_wf {s : State} (h : s.mem.wf = true) (a : Word) : (read8 a s).2.mem.wf = true := by
  unfold read8
  split
  · exact h
  · exact h
  · apply State.wf_setCell
    obtain e | e := ioRead_mem _ a s
    · rw [e]; exact h
    · rw [e]; exact Memory.wf_write h (by decide)

/-! ## Writes -/

@[simp] theorem audioMux_cpu (k : Nat) (v : Byte) (s : State) : (audioMuxPattern k v s).cpu = s.cpu := by
  unfold audioMuxPattern; dsimp only; split <;> [skip; split] <;> simp
@[simp] theorem audioMux_ctl (k : Nat) (v : Byte) (s : State) : (audioMuxPattern k v s).ctl = s.ctl := by
  unfold audioMuxPattern; dsimp only; split <;> [skip; split] <;> simp
@[simp] theorem audioMux_dbg (k : Nat) (v : Byte) (s : State) : (audioMuxPattern k v s).dbg = s.dbg := by
  unfold audioMuxPattern; dsimp only; split <;> [skip; split] <;> simp
@[simp] theorem audioMux_mem (k : Nat) (v : Byte) (s : State) : (audioMuxPattern k v s).mem = s.mem := by
  unfold audioMuxPattern; dsimp only; split <;> [skip; split] <;> simp

@[simp] theorem ioWrite_cpu (p : IoPort) (a : Word) (v : Byte) (s : State) : (ioWrite p a v s).cpu = s.cpu := by
  cases p <;> simp [ioWrite, pia0CraWrite, pia0PbWrite, pia0CrbWrite, pia1PaWrite, pia1CraWrite, pia1PbWrite,
    pia1CrbWrite, samCtlWrite, joystkComp_same, keyboardRead_same]

@[simp] theorem ioWrite_ctl (p : IoPort) (a : Word) (v : Byte) (s : State) : (ioWrite p a v s).ctl = s.ctl := by
  cases p <;> simp [ioWrite, pia0CraWrite, pia0PbWrite, pia0CrbWrite, pia1PaWrite, pia1CraWrite, pia1PbWrite,
    pia1CrbWrite, samCtlWrite, joystkComp_same, keyboardRead_same]

@[simp] theorem ioWrite_dbg (p : IoPort) (a : Word) (v : Byte) (s : State) : (ioWrite p a v s).dbg = s.dbg := by
  cases p <;> simp [ioWrite, pia0CraWrite, pia0PbWrite, pia0CrbWrite, pia1PaWrite, pia1CraWrite, pia1PbWrite,
    pia1CrbWrite, samCtlWrite, joystkComp_same, keyboardRead_same]

/-- The callbacks change no cell but PIA0's PA (48_dev_pia0.md R405). -/
theorem ioWrite_mem (p : IoPort) (a : Word) (v : Byte) (s : State) :
    (ioWrite p a v s).mem = s.mem ∨ ∃ w, (ioWrite p a v s).mem = Memory.write s.mem 0xFF00 w := by
  cases p
  case pia0Pb => exact .inr ⟨_, by simp [ioWrite, pia0PbWrite, joystkComp_same, keyboardRead_same]; rfl⟩
  all_goals
    exact .inl (by simp [ioWrite, pia0CraWrite, pia0CrbWrite, pia1PaWrite, pia1CraWrite, pia1PbWrite, pia1CrbWrite,
      samCtlWrite])

@[simp] theorem write8_cpu (a : Word) (v : Byte) (s : State) : (write8 a v s).cpu = s.cpu := by
  unfold write8; split <;> simp
@[simp] theorem write8_ctl (a : Word) (v : Byte) (s : State) : (write8 a v s).ctl = s.ctl := by
  unfold write8; split <;> simp
@[simp] theorem write8_dbg (a : Word) (v : Byte) (s : State) : (write8 a v s).dbg = s.dbg := by
  unfold write8; split <;> simp

theorem write8_ram {a : Word} (h : cellKind a = .ram) (v : Byte) (s : State) : write8 a v s = s.setCell a v := by
  simp [write8, h]

/-- A ROM cell discards the byte (20_memory.md R53). -/
theorem write8_rom {a : Word} (h : cellKind a = .rom) (v : Byte) (s : State) : write8 a v s = s := by
  simp [write8, h]

/-- A write changes no other cell that has no callback. -/
theorem write8_cell {a b : Word} (hb : isIo b = false) (hab : b ≠ a) (v : Byte) (s : State) :
    (write8 a v s).cell b = s.cell b := by
  unfold write8
  split
  · exact State.cell_setCell_other hab
  · rfl
  · rename_i p hp
    have hFF00 : b.toNat ≠ 0xFF00 := fun hh =>
      ne_of_isIo hb (b := 0xFF00) (by decide) (BitVec.eq_of_toNat_eq (by simpa using hh))
    unfold State.cell
    obtain h | ⟨w, h⟩ := ioWrite_mem p a v (s.setCell a v)
    · rw [h]; exact State.cell_setCell_other hab
    · rw [h, Memory.read_write_other hFF00]; exact State.cell_setCell_other hab

/-- No write changes a ROM cell (20_memory.md R68). -/
theorem write8_cell_rom {a b : Word} (hb : cellKind b = .rom) (v : Byte) (s : State) :
    (write8 a v s).cell b = s.cell b := by
  by_cases hab : b = a
  · subst hab; rw [write8_rom hb]
  · exact write8_cell (isIo_rom hb) hab v s

theorem write8_wf {s : State} (h : s.mem.wf = true) (a : Word) (v : Byte) : (write8 a v s).mem.wf = true := by
  unfold write8
  split
  · exact State.wf_setCell h
  · exact h
  · obtain e | ⟨w, e⟩ := ioWrite_mem _ a v (s.setCell a v)
    · rw [e]; exact State.wf_setCell h
    · rw [e]; exact Memory.wf_write (State.wf_setCell h) (by decide)

end Sys2Proof.Machine
end

