-- ==== Sys2Proof/Laws/Ops.lean ====
section
/-! SUPPORT. What each shared operation can do, said once: which registers it moves, and that it changes no cell
without a callback but the ones it stores to. -/

namespace Sys2Proof.Machine

/-! ## Named registers -/

@[simp] theorem State.setAcc_ctl (s : State) (r : Acc) (v : Byte) : (s.setAcc r v).ctl = s.ctl := by cases r <;> rfl
@[simp] theorem State.setAcc_dbg (s : State) (r : Acc) (v : Byte) : (s.setAcc r v).dbg = s.dbg := by cases r <;> rfl
@[simp] theorem State.setAcc_mem (s : State) (r : Acc) (v : Byte) : (s.setAcc r v).mem = s.mem := by cases r <;> rfl
@[simp] theorem State.setAcc_sam (s : State) (r : Acc) (v : Byte) : (s.setAcc r v).sam = s.sam := by cases r <;> rfl
@[simp] theorem State.setAcc_vdg (s : State) (r : Acc) (v : Byte) : (s.setAcc r v).vdg = s.vdg := by cases r <;> rfl
@[simp] theorem State.setAcc_pia0 (s : State) (r : Acc) (v : Byte) : (s.setAcc r v).pia0 = s.pia0 := by
  cases r <;> rfl
@[simp] theorem State.setAcc_pia1 (s : State) (r : Acc) (v : Byte) : (s.setAcc r v).pia1 = s.pia1 := by
  cases r <;> rfl
@[simp] theorem State.setAcc_cell (s : State) (r : Acc) (v : Byte) (a : Word) :
    (s.setAcc r v).cell a = s.cell a := by cases r <;> rfl
@[simp] theorem State.setAcc_cc (s : State) (r : Acc) (v : Byte) : (s.setAcc r v).cpu.cc = s.cpu.cc := by
  cases r <;> rfl
@[simp] theorem State.acc_setAcc (s : State) (r : Acc) (v : Byte) : (s.setAcc r v).acc r = v := by cases r <;> rfl

@[simp] theorem State.setWide_ctl (s : State) (r : Wide) (v : Word) : (s.setWide r v).ctl = s.ctl := by
  cases r <;> rfl
@[simp] theorem State.setWide_dbg (s : State) (r : Wide) (v : Word) : (s.setWide r v).dbg = s.dbg := by
  cases r <;> rfl
@[simp] theorem State.setWide_mem (s : State) (r : Wide) (v : Word) : (s.setWide r v).mem = s.mem := by
  cases r <;> rfl
@[simp] theorem State.setWide_sam (s : State) (r : Wide) (v : Word) : (s.setWide r v).sam = s.sam := by
  cases r <;> rfl
@[simp] theorem State.setWide_vdg (s : State) (r : Wide) (v : Word) : (s.setWide r v).vdg = s.vdg := by
  cases r <;> rfl
@[simp] theorem State.setWide_pia0 (s : State) (r : Wide) (v : Word) : (s.setWide r v).pia0 = s.pia0 := by
  cases r <;> rfl
@[simp] theorem State.setWide_pia1 (s : State) (r : Wide) (v : Word) : (s.setWide r v).pia1 = s.pia1 := by
  cases r <;> rfl
@[simp] theorem State.setWide_cell (s : State) (r : Wide) (v : Word) (a : Word) :
    (s.setWide r v).cell a = s.cell a := by cases r <;> rfl
@[simp] theorem State.setWide_cc (s : State) (r : Wide) (v : Word) : (s.setWide r v).cpu.cc = s.cpu.cc := by
  cases r <;> rfl

theorem join_hi_lo (w : Word) : join (hi w) (lo w) = w := by
  unfold join hi lo
  ext i hi
  simp only [BitVec.getElem_append, BitVec.getElem_extractLsb']
  split <;> simp_all [BitVec.getLsbD_eq_getElem]

theorem hi_join (h l : Byte) : hi (join h l) = h := by
  unfold join hi
  ext i hi
  simp only [BitVec.getElem_extractLsb', BitVec.getLsbD_append]
  simp_all [BitVec.getLsbD_eq_getElem]

theorem lo_join (h l : Byte) : lo (join h l) = l := by
  unfold join lo
  ext i hi
  simp only [BitVec.getElem_extractLsb', BitVec.getLsbD_append]
  simp_all [BitVec.getLsbD_eq_getElem]

@[simp] theorem State.wide_setWide (s : State) (r : Wide) (w : Word) : (s.setWide r w).wide r = w := by
  cases r
  case d => exact join_hi_lo w
  all_goals rfl

@[simp] theorem State.setIdx_ctl (s : State) (r : IdxReg) (v : Word) : (s.setIdx r v).ctl = s.ctl := by
  cases r <;> rfl
@[simp] theorem State.setIdx_dbg (s : State) (r : IdxReg) (v : Word) : (s.setIdx r v).dbg = s.dbg := by
  cases r <;> rfl
@[simp] theorem State.setIdx_mem (s : State) (r : IdxReg) (v : Word) : (s.setIdx r v).mem = s.mem := by
  cases r <;> rfl
@[simp] theorem State.setIdx_sam (s : State) (r : IdxReg) (v : Word) : (s.setIdx r v).sam = s.sam := by
  cases r <;> rfl
@[simp] theorem State.setIdx_vdg (s : State) (r : IdxReg) (v : Word) : (s.setIdx r v).vdg = s.vdg := by
  cases r <;> rfl
@[simp] theorem State.setIdx_pia0 (s : State) (r : IdxReg) (v : Word) : (s.setIdx r v).pia0 = s.pia0 := by
  cases r <;> rfl
@[simp] theorem State.setIdx_pia1 (s : State) (r : IdxReg) (v : Word) : (s.setIdx r v).pia1 = s.pia1 := by
  cases r <;> rfl
@[simp] theorem State.setIdx_host (s : State) (r : IdxReg) (v : Word) : (s.setIdx r v).host = s.host := by
  cases r <;> rfl
@[simp] theorem State.setIdx_draws (s : State) (r : IdxReg) (v : Word) : (s.setIdx r v).draws = s.draws := by
  cases r <;> rfl
@[simp] theorem State.setIdx_out (s : State) (r : IdxReg) (v : Word) : (s.setIdx r v).out = s.out := by
  cases r <;> rfl
@[simp] theorem State.setIdx_cell (s : State) (r : IdxReg) (v : Word) (a : Word) :
    (s.setIdx r v).cell a = s.cell a := by cases r <;> rfl
@[simp] theorem State.setIdx_cc (s : State) (r : IdxReg) (v : Word) : (s.setIdx r v).cpu.cc = s.cpu.cc := by
  cases r <;> rfl
@[simp] theorem State.setIdx_pc (s : State) (r : IdxReg) (v : Word) : (s.setIdx r v).cpu.pc = s.cpu.pc := by
  cases r <;> rfl

@[simp] theorem State.setSP_ctl (s : State) (k : Stack) (v : Word) : (s.setSP k v).ctl = s.ctl := by cases k <;> rfl
@[simp] theorem State.setSP_dbg (s : State) (k : Stack) (v : Word) : (s.setSP k v).dbg = s.dbg := by cases k <;> rfl
@[simp] theorem State.setSP_mem (s : State) (k : Stack) (v : Word) : (s.setSP k v).mem = s.mem := by cases k <;> rfl
@[simp] theorem State.setSP_sam (s : State) (k : Stack) (v : Word) : (s.setSP k v).sam = s.sam := by cases k <;> rfl
@[simp] theorem State.setSP_vdg (s : State) (k : Stack) (v : Word) : (s.setSP k v).vdg = s.vdg := by cases k <;> rfl
@[simp] theorem State.setSP_pia0 (s : State) (k : Stack) (v : Word) : (s.setSP k v).pia0 = s.pia0 := by
  cases k <;> rfl
@[simp] theorem State.setSP_pia1 (s : State) (k : Stack) (v : Word) : (s.setSP k v).pia1 = s.pia1 := by
  cases k <;> rfl
@[simp] theorem State.setSP_cell (s : State) (k : Stack) (v : Word) (a : Word) :
    (s.setSP k v).cell a = s.cell a := by cases k <;> rfl
@[simp] theorem State.setSP_system (s : State) (v : Word) : s.setSP .system v = s.setS v := rfl
@[simp] theorem State.setSP_user (s : State) (v : Word) : s.setSP .user v = s.setU v := rfl
@[simp] theorem State.sp_system (s : State) : s.sp .system = s.cpu.s := rfl
@[simp] theorem State.sp_user (s : State) : s.sp .user = s.cpu.u := rfl

/-- Two states with the same registers have the same stack pointers. -/
theorem State.sp_congr {s t : State} (h : t.cpu = s.cpu) (k : Stack) : t.sp k = s.sp k := by
  cases k <;> simp [State.sp, h]

@[simp] theorem State.setE_cpu (s : State) (e : Bool) :
    (s.setE e).cpu = { s.cpu with cc := { s.cpu.cc with e := e } } := rfl
@[simp] theorem State.setE_ctl (s : State) (e : Bool) : (s.setE e).ctl = s.ctl := rfl
@[simp] theorem State.setE_dbg (s : State) (e : Bool) : (s.setE e).dbg = s.dbg := rfl
@[simp] theorem State.setE_mem (s : State) (e : Bool) : (s.setE e).mem = s.mem := rfl
@[simp] theorem State.setE_sam (s : State) (e : Bool) : (s.setE e).sam = s.sam := rfl
@[simp] theorem State.setE_vdg (s : State) (e : Bool) : (s.setE e).vdg = s.vdg := rfl
@[simp] theorem State.setE_pia0 (s : State) (e : Bool) : (s.setE e).pia0 = s.pia0 := rfl
@[simp] theorem State.setE_pia1 (s : State) (e : Bool) : (s.setE e).pia1 = s.pia1 := rfl
@[simp] theorem State.setE_host (s : State) (e : Bool) : (s.setE e).host = s.host := rfl
@[simp] theorem State.setE_draws (s : State) (e : Bool) : (s.setE e).draws = s.draws := rfl
@[simp] theorem State.setE_out (s : State) (e : Bool) : (s.setE e).out = s.out := rfl
@[simp] theorem State.setE_cell (s : State) (e : Bool) (a : Word) : (s.setE e).cell a = s.cell a := rfl

/-! ## 16-bit accesses -/

@[simp] theorem memRead16_cpu (a : Word) (s : State) : (memRead16 a s).2.cpu = s.cpu := by simp [memRead16]
@[simp] theorem memRead16_dbg (a : Word) (s : State) : (memRead16 a s).2.dbg = s.dbg := by simp [memRead16]
@[simp] theorem memRead16_sam (a : Word) (s : State) : (memRead16 a s).2.sam = s.sam := by simp [memRead16]
@[simp] theorem memRead16_vdg (a : Word) (s : State) : (memRead16 a s).2.vdg = s.vdg := by simp [memRead16]
@[simp] theorem memRead16_pia0 (a : Word) (s : State) : (memRead16 a s).2.pia0 = s.pia0 := by simp [memRead16]
@[simp] theorem memRead16_runState (a : Word) (s : State) : (memRead16 a s).2.ctl.runState = s.ctl.runState := by
  simp [memRead16]
@[simp] theorem memRead16_cwaiStacked (a : Word) (s : State) :
    (memRead16 a s).2.ctl.cwaiStacked = s.ctl.cwaiStacked := by simp [memRead16]

/-- Two cells without a callback: the word, high byte first, and nothing happens. -/
theorem memRead16_plain {a : Word} (h1 : isIo a = false) (h2 : isIo (a + 1) = false) (s : State) :
    memRead16 a s = (join (s.cell a) (s.cell (a + 1)), s) := by
  simp only [memRead16, read8_plain h1, read8_plain h2]

theorem memRead16_cell {a b : Word} (hb : isIo b = false) (s : State) : (memRead16 a s).2.cell b = s.cell b := by
  simp [memRead16, read8_cell hb]

theorem memRead16_wf {s : State} (h : s.mem.wf = true) (a : Word) : (memRead16 a s).2.mem.wf = true :=
  read8_wf (read8_wf h _) _

@[simp] theorem memWrite16_cpu (a w : Word) (s : State) : (memWrite16 a w s).cpu = s.cpu := by simp [memWrite16]
@[simp] theorem memWrite16_ctl (a w : Word) (s : State) : (memWrite16 a w s).ctl = s.ctl := by simp [memWrite16]
@[simp] theorem memWrite16_dbg (a w : Word) (s : State) : (memWrite16 a w s).dbg = s.dbg := by simp [memWrite16]

theorem memWrite16_cell {a b : Word} (hb : isIo b = false) (h1 : b ≠ a) (h2 : b ≠ a + 1) (w : Word) (s : State) :
    (memWrite16 a w s).cell b = s.cell b := by
  simp only [memWrite16, write8_cell hb h1, write8_cell hb h2]

theorem memWrite16_cell_rom {b : Word} (hb : cellKind b = .rom) (a w : Word) (s : State) :
    (memWrite16 a w s).cell b = s.cell b := by
  simp [memWrite16, write8_cell_rom hb]

theorem memWrite16_wf {s : State} (h : s.mem.wf = true) (a w : Word) : (memWrite16 a w s).mem.wf = true :=
  write8_wf (write8_wf h _ _) _ _

/-! ## Stacks -/

@[simp] theorem push8_cpu (k : Stack) (v : Byte) (s : State) : (push8 k v s).cpu = (s.setSP k (s.sp k - 1)).cpu := by
  simp [push8]
@[simp] theorem push8_ctl (k : Stack) (v : Byte) (s : State) : (push8 k v s).ctl = s.ctl := by simp [push8]
@[simp] theorem push8_dbg (k : Stack) (v : Byte) (s : State) : (push8 k v s).dbg = s.dbg := by simp [push8]

theorem push8_cell {k : Stack} {b : Word} {s : State} (hb : isIo b = false) (h : b ≠ s.sp k - 1) (v : Byte) :
    (push8 k v s).cell b = s.cell b := by
  simp only [push8, write8_cell hb h, State.setSP_cell]

theorem push8_cell_rom {b : Word} (hb : cellKind b = .rom) (k : Stack) (v : Byte) (s : State) :
    (push8 k v s).cell b = s.cell b := by
  simp [push8, write8_cell_rom hb]

theorem push8_wf {s : State} (h : s.mem.wf = true) (k : Stack) (v : Byte) : (push8 k v s).mem.wf = true :=
  write8_wf (by simpa using h) _ _

@[simp] theorem push16_ctl (k : Stack) (w : Word) (s : State) : (push16 k w s).ctl = s.ctl := by simp [push16]
@[simp] theorem push16_dbg (k : Stack) (w : Word) (s : State) : (push16 k w s).dbg = s.dbg := by simp [push16]

@[simp] theorem push16_cpu (k : Stack) (w : Word) (s : State) :
    (push16 k w s).cpu = (s.setSP k (s.sp k - 2)).cpu := by
  cases k <;> simp [push16, State.sp] <;> bv_omega

theorem push16_cell_rom {b : Word} (hb : cellKind b = .rom) (k : Stack) (w : Word) (s : State) :
    (push16 k w s).cell b = s.cell b := by
  simp [push16, push8_cell_rom hb]

theorem push16_wf {s : State} (h : s.mem.wf = true) (k : Stack) (w : Word) : (push16 k w s).mem.wf = true :=
  push8_wf (push8_wf h _ _) _ _

@[simp] theorem pull8_cpu (k : Stack) (s : State) : (pull8 k s).2.cpu = (s.setSP k (s.sp k + 1)).cpu := by
  cases k <;> simp [pull8, State.sp]
@[simp] theorem pull8_dbg (k : Stack) (s : State) : (pull8 k s).2.dbg = s.dbg := by simp [pull8]
@[simp] theorem pull8_runState (k : Stack) (s : State) : (pull8 k s).2.ctl.runState = s.ctl.runState := by
  simp [pull8]
@[simp] theorem pull8_cwaiStacked (k : Stack) (s : State) : (pull8 k s).2.ctl.cwaiStacked = s.ctl.cwaiStacked := by
  simp [pull8]

/-- A cell without a callback: its data, and only the pointer moves. -/
theorem pull8_plain {k : Stack} {s : State} (h : isIo (s.sp k) = false) :
    pull8 k s = (s.cell (s.sp k), s.setSP k (s.sp k + 1)) := by
  simp [pull8, read8_plain h]

theorem pull8_cell {b : Word} (hb : isIo b = false) (k : Stack) (s : State) : (pull8 k s).2.cell b = s.cell b := by
  simp [pull8, read8_cell hb]

theorem pull8_wf {s : State} (h : s.mem.wf = true) (k : Stack) : (pull8 k s).2.mem.wf = true := by
  simpa [pull8] using read8_wf h _

@[simp] theorem pull16_cpu (k : Stack) (s : State) : (pull16 k s).2.cpu = (s.setSP k (s.sp k + 2)).cpu := by
  cases k <;> simp [pull16, State.sp] <;> bv_omega
@[simp] theorem pull16_dbg (k : Stack) (s : State) : (pull16 k s).2.dbg = s.dbg := by simp [pull16]
@[simp] theorem pull16_runState (k : Stack) (s : State) : (pull16 k s).2.ctl.runState = s.ctl.runState := by
  simp [pull16]
@[simp] theorem pull16_cwaiStacked (k : Stack) (s : State) :
    (pull16 k s).2.ctl.cwaiStacked = s.ctl.cwaiStacked := by simp [pull16]

theorem pull16_cell {b : Word} (hb : isIo b = false) (k : Stack) (s : State) :
    (pull16 k s).2.cell b = s.cell b := by
  simp [pull16, pull8_cell hb]

theorem pull16_wf {s : State} (h : s.mem.wf = true) (k : Stack) : (pull16 k s).2.mem.wf = true :=
  pull8_wf (pull8_wf h k) k

/-! ## Effective addresses -/

@[simp] theorem autoUpdate_ctl (r : IdxReg) (m : Submode) (s : State) : (autoUpdate r m s).ctl = s.ctl := by
  cases m <;> simp [autoUpdate]
@[simp] theorem autoUpdate_dbg (r : IdxReg) (m : Submode) (s : State) : (autoUpdate r m s).dbg = s.dbg := by
  cases m <;> simp [autoUpdate]
@[simp] theorem autoUpdate_mem (r : IdxReg) (m : Submode) (s : State) : (autoUpdate r m s).mem = s.mem := by
  cases m <;> simp [autoUpdate]
@[simp] theorem autoUpdate_cell (r : IdxReg) (m : Submode) (s : State) (a : Word) :
    (autoUpdate r m s).cell a = s.cell a := by cases m <;> simp [autoUpdate]

theorem ea_cell {b : Word} (hb : isIo b = false) (m : Mem) (s : State) : (ea m s).2.cell b = s.cell b := by
  unfold ea
  split
  · rfl
  · rfl
  · unfold eaIndexed
    split
    · rfl
    · split
      · simp [memRead16_cell hb]
      · simp

@[simp] theorem ea_dbg (m : Mem) (s : State) : (ea m s).2.dbg = s.dbg := by
  unfold ea
  split
  · rfl
  · rfl
  · unfold eaIndexed
    split
    · rfl
    · split <;> simp

@[simp] theorem ea_cwaiStacked (m : Mem) (s : State) : (ea m s).2.ctl.cwaiStacked = s.ctl.cwaiStacked := by
  unfold ea
  split
  · rfl
  · rfl
  · unfold eaIndexed
    split
    · rfl
    · split <;> simp

theorem ea_wf {s : State} (h : s.mem.wf = true) (m : Mem) : (ea m s).2.mem.wf = true := by
  unfold ea
  split
  · exact h
  · exact h
  · unfold eaIndexed
    split
    · exact h
    · split
      · exact memRead16_wf (by simpa using h) _
      · simpa using h

end Sys2Proof.Machine
end

