-- ==== Sys2Proof/Laws/Decode.lean ====
section
/-! SUPPORT. The decoder on the encoder's bytes, operand shape by operand shape: what Laws/PerInstr.lean cites. -/

namespace Sys2Proof

open Sys2Proof.Machine (join_hi_lo)

theorem idxRegOf_code (rr : IdxReg) : idxRegOf rr.code = rr := by cases rr <;> rfl

theorem regOf_code (r : Reg) : regOf r.code = some r := by cases r <;> rfl

/-- The fields of a postbyte of form (a): `0 rr nnnnn`. -/
theorem off5_fields (rr : BitVec 2) (n : BitVec 5) :
    (0#1 ++ rr ++ n : BitVec 8).getLsbD 7 = false ∧ (0#1 ++ rr ++ n : BitVec 8).extractLsb' 5 2 = rr ∧
    (0#1 ++ rr ++ n : BitVec 8).extractLsb' 0 5 = n := by
  revert rr n
  decide

/-- The fields of a postbyte of form (b): `1 rr i ssss`. -/
theorem sub_fields (rr : BitVec 2) (ind : Bool) (m : BitVec 4) :
    (1#1 ++ rr ++ BitVec.ofBool ind ++ m : BitVec 8).getLsbD 7 = true ∧
    (1#1 ++ rr ++ BitVec.ofBool ind ++ m : BitVec 8).extractLsb' 5 2 = rr ∧
    (1#1 ++ rr ++ BitVec.ofBool ind ++ m : BitVec 8).getLsbD 4 = ind ∧
    (1#1 ++ rr ++ BitVec.ofBool ind ++ m : BitVec 8).extractLsb' 0 4 = m := by
  revert rr ind m
  decide

/-- The nibbles of a register pair. -/
theorem pair_fields (r1 r2 : BitVec 4) :
    (r1 ++ r2 : BitVec 8).extractLsb' 4 4 = r1 ∧ (r1 ++ r2 : BitVec 8).extractLsb' 0 4 = r2 := by
  revert r1 r2
  decide

theorem parseIndexed_encode (mk : Indexed → Instr) (ix : Indexed) (h : ix.wf = true) (rest : List Byte) :
    runParse (parseIndexed mk) (encodeIndexed ix ++ rest) = .instr (mk ix) rest := by
  cases ix with
  | off5 rr n =>
    obtain ⟨h1, h2, h3⟩ := off5_fields rr.code n
    simp only [encodeIndexed, parseIndexed, List.cons_append, List.nil_append, runParse, h1, h2, h3, idxRegOf_code,
      Bool.false_eq_true, if_false]
  | sub rr ind m =>
    obtain ⟨h1, h2, h3, h4⟩ := sub_fields rr.code ind m.code
    simp only [encodeIndexed, parseIndexed, List.cons_append, runParse, h1, h2, h3, h4, idxRegOf_code, if_true]
    cases m <;> cases ind <;>
      simp_all [Indexed.wf, parseSubmode, Submode.code, Submode.offsetBytes, runParse, parseByte, parseWord,
        join_hi_lo]

theorem parseRegs_encode (mk : Reg → Reg → Instr) (r1 r2 : Reg) (rest : List Byte) :
    runParse (parseRegs mk) ((r1.code ++ r2.code : BitVec 8) :: rest) = .instr (mk r1 r2) rest := by
  obtain ⟨h1, h2⟩ := pair_fields r1.code r2.code
  simp [parseRegs, runParse, h1, h2, regOf_code]

/-- A memory operand after its opcode, with or without a page byte before it. -/
theorem mem_roundTrip {mk : Mem → Instr} {page : List Byte} {dirOp idxOp extOp : Byte}
    (hd : ∀ v rest, decode (page ++ dirOp :: v :: rest) = .instr (mk (.direct v)) rest)
    (hi : ∀ bs, decode (page ++ idxOp :: bs) = runParse (parseIndexed fun ix => mk (.indexed ix)) bs)
    (he : ∀ h l rest, decode (page ++ extOp :: h :: l :: rest) = .instr (mk (.extended (join h l))) rest)
    (m : Mem) (hm : m.wf = true) (rest : List Byte) :
    decode (page ++ (encodeMem dirOp idxOp extOp m ++ rest)) = .instr (mk m) rest := by
  cases m with
  | direct d => exact hd d rest
  | extended a => exact (he (Sys2Proof.hi a) (Sys2Proof.lo a) rest).trans (by rw [join_hi_lo])
  | indexed ix => exact (hi _).trans (parseIndexed_encode _ ix hm rest)

theorem src8_roundTrip {mk : Src8 → Instr} {page : List Byte} {immOp dirOp idxOp extOp : Byte}
    (hm : ∀ v rest, decode (page ++ immOp :: v :: rest) = .instr (mk (.imm v)) rest)
    (hd : ∀ v rest, decode (page ++ dirOp :: v :: rest) = .instr (mk (.mem (.direct v))) rest)
    (hi : ∀ bs, decode (page ++ idxOp :: bs) = runParse (parseIndexed fun ix => mk (.mem (.indexed ix))) bs)
    (he : ∀ h l rest, decode (page ++ extOp :: h :: l :: rest) = .instr (mk (.mem (.extended (join h l)))) rest)
    (o : Src8) (ho : o.wf = true) (rest : List Byte) :
    decode (page ++ (encodeSrc8 immOp dirOp idxOp extOp o ++ rest)) = .instr (mk o) rest := by
  cases o with
  | imm v => exact hm v rest
  | mem m => exact mem_roundTrip (mk := fun m => mk (.mem m)) hd hi he m ho rest

theorem src16_roundTrip {mk : Src16 → Instr} {page : List Byte} {immOp dirOp idxOp extOp : Byte}
    (hm : ∀ h l rest, decode (page ++ immOp :: h :: l :: rest) = .instr (mk (.imm (join h l))) rest)
    (hd : ∀ v rest, decode (page ++ dirOp :: v :: rest) = .instr (mk (.mem (.direct v))) rest)
    (hi : ∀ bs, decode (page ++ idxOp :: bs) = runParse (parseIndexed fun ix => mk (.mem (.indexed ix))) bs)
    (he : ∀ h l rest, decode (page ++ extOp :: h :: l :: rest) = .instr (mk (.mem (.extended (join h l)))) rest)
    (o : Src16) (ho : o.wf = true) (rest : List Byte) :
    decode (page ++ (encodeSrc16 immOp dirOp idxOp extOp o ++ rest)) = .instr (mk o) rest := by
  cases o with
  | imm w => exact (hm (Sys2Proof.hi w) (Sys2Proof.lo w) rest).trans (by rw [join_hi_lo])
  | mem m => exact mem_roundTrip (mk := fun m => mk (.mem m)) hd hi he m ho rest

/-- A word operand after its opcode. -/
theorem word_roundTrip {mk : Word → Instr} {pre : List Byte}
    (h : ∀ h l rest, decode (pre ++ h :: l :: rest) = .instr (mk (join h l)) rest) (w : Word)
    (rest : List Byte) : decode (pre ++ hi w :: lo w :: rest) = .instr (mk w) rest :=
  (h _ _ rest).trans (by rw [join_hi_lo])

end Sys2Proof
end

