-- ==== Sys2Proof/Laws/HostCalls.lean ====
section
/-! SUPPORT. What the host's calls can do: what `render()` changes (47_dev_vdg.md R377), what a painted picture holds,
and the map the boot sequence leaves (70_reset_and_hazards.md R514). -/

namespace Sys2Proof.Machine

/-! ## The address map -/

/-- The boot sequence's own calls leave the machine's map. -/
theorem bootDefines_eq : bootDefines = .next bootMap := rfl

theorem defineSpan_next {sp : Span} (h : sp.last < 65536) (m : AttrMap) : defineSpan sp m = .next (sp :: m) := by
  simp [defineSpan, h]

theorem defineSpan_fault {sp : Span} (h : 65536 ≤ sp.last) (m : AttrMap) : defineSpan sp m = .fault .addrRange := by
  simp [defineSpan, Nat.not_lt.mpr h]

/-- The attribute of an address after one more call: the call's, inside its span (20_memory.md R54). -/
theorem attrOf_cons (sp : Span) (m : AttrMap) (a : Nat) :
    attrOf (sp :: m) a = if sp.first ≤ a ∧ a ≤ sp.last then sp.kind else attrOf m a := rfl

/-! ## The picture -/

/-- `painter` paints every mode whose geometry R376 gives. -/
theorem painter_geometry {s : State} {g : Geometry} (h : geometry s.vdg.mode = some g) :
    painter s = some (scaledPixel s g) := by
  cases hm : s.vdg.mode <;> simp_all [painter, geometry]

/-- At the picture's own size a dot is that of the source. -/
theorem scaledPixel_source (s : State) {g : Geometry} (hw : 0 < g.width) (hh : 0 < g.height) (x y : Nat) :
    scaledPixel s g g.width g.height x y = sourcePixel s g x y := by
  simp [scaledPixel, Nat.div_self hw, Nat.div_self hh]

/-- Everything a negotiation changes: the recorded mode, the framebuffer, the log. -/
theorem negotiate_eq (s : State) :
    ∃ w h picture out,
      negotiate s = { s with
        vdg := { s.vdg with prevMode := s.vdg.mode }
        host := { s.host with fb := ⟨w, h, s.host.fb.palette, picture⟩ }
        out := out } ∧
      (w, h) = (if s.vdg.mode = s.vdg.prevMode then (s.host.fb.width, s.host.fb.height)
        else Config.fbRes s.vdg.mode) := by
  unfold negotiate
  split
  · next hm => exact ⟨s.host.fb.width, s.host.fb.height, s.host.fb.picture, s.out, by rw [hm], rfl⟩
  · exact ⟨_, _, none, _, rfl, rfl⟩

/-- A painted picture has one index per dot of the framebuffer. -/
theorem paint_picture (p : Nat → Nat → Nat → Nat → PaletteIndex) (s : State) :
    (paint p s).host.fb.picture = some ((List.range (s.host.fb.width * s.host.fb.height)).map fun k =>
      p s.host.fb.width s.host.fb.height (k % s.host.fb.width) (k / s.host.fb.width)) := rfl

/-- The index of dot `k` of a painted picture, in raster order. -/
theorem painted_dot (f : Nat → PaletteIndex) {k n : Nat} (h : k < n) : ((List.range n).map f)[k]? = some (f k) := by
  simp [List.getElem?_range h]

/-- A pixel of a two-bit mode, as bits of its byte (47_dev_vdg.md R379). -/
theorem pixelValue_two (b : Byte) {k : Nat} (h : k < 4) :
    pixelValue 2 b k = (b.extractLsb' (6 - 2 * k) 2).toNat := by
  have : k = 0 ∨ k = 1 ∨ k = 2 ∨ k = 3 := by omega
  rcases this with rfl | rfl | rfl | rfl <;>
    simp [pixelValue, BitVec.extractLsb'_toNat, Nat.shiftRight_eq_div_pow]

/-- A pixel of a one-bit mode, as a bit of its byte (47_dev_vdg.md R379). -/
theorem pixelValue_one (b : Byte) (k : Fin 8) : (pixelValue 1 b k == 1) = b.getLsbD (7 - k) := by
  revert b k
  decide

end Sys2Proof.Machine
end

