-- ==== Sys2Proof/Laws/Stack.lean ====
section
/-! SUPPORT. Pushes said once: a register list, a frame and a return address are all bytes pushed one after the other,
the last one at the final stack pointer. -/

namespace Sys2Proof.Machine

/-- Bytes pushed so that they lie in ascending order from the final pointer on. -/
def pushBytes (k : Stack) (bytes : List Byte) (s : State) : State := bytes.foldr (push8 k) s

@[simp] theorem pushBytes_nil (k : Stack) (s : State) : pushBytes k [] s = s := rfl

theorem pushBytes_cons (k : Stack) (b : Byte) (bs : List Byte) (s : State) :
    pushBytes k (b :: bs) s = push8 k b (pushBytes k bs s) := rfl

theorem pushBytes_append (k : Stack) (as bs : List Byte) (s : State) :
    pushBytes k (as ++ bs) s = pushBytes k as (pushBytes k bs s) := by
  simp [pushBytes, List.foldr_append]

theorem push16_eq (k : Stack) (w : Word) (s : State) : push16 k w s = pushBytes k [hi w, lo w] s := rfl

@[simp] theorem pushBytes_ctl (k : Stack) (bs : List Byte) (s : State) : (pushBytes k bs s).ctl = s.ctl := by
  induction bs with
  | nil => rfl
  | cons b bs ih => simpa [pushBytes_cons] using ih

@[simp] theorem pushBytes_dbg (k : Stack) (bs : List Byte) (s : State) : (pushBytes k bs s).dbg = s.dbg := by
  induction bs with
  | nil => rfl
  | cons b bs ih => simpa [pushBytes_cons] using ih

theorem pushBytes_wf {s : State} (h : s.mem.wf = true) (k : Stack) (bs : List Byte) :
    (pushBytes k bs s).mem.wf = true := by
  induction bs with
  | nil => exact h
  | cons b bs ih => exact push8_wf ih k b

theorem pushBytes_cell_rom {b : Word} (hb : cellKind b = .rom) (k : Stack) (bs : List Byte) (s : State) :
    (pushBytes k bs s).cell b = s.cell b := by
  induction bs with
  | nil => rfl
  | cons v bs ih => rw [pushBytes_cons, push8_cell_rom hb, ih]

theorem State.setSP_cpu_congr {s t : State} (h : t.cpu = s.cpu) (k : Stack) (w : Word) :
    (t.setSP k w).cpu = (s.setSP k w).cpu := by cases k <;> simp [h]

@[simp] theorem State.sp_setSP (s : State) (k : Stack) (w : Word) : (s.setSP k w).sp k = w := by cases k <;> rfl

@[simp] theorem State.sp_other_setSP (s : State) (k : Stack) (w : Word) : (s.setSP k w).sp k.other = s.sp k.other := by
  cases k <;> rfl

@[simp] theorem State.setSP_setSP (s : State) (k : Stack) (v w : Word) : (s.setSP k v).setSP k w = s.setSP k w := by
  cases k <;> rfl

/-- Only the stack pointer moves, down by the number of bytes. -/
theorem pushBytes_cpu (k : Stack) (bs : List Byte) (s : State) :
    (pushBytes k bs s).cpu = (s.setSP k (s.sp k - BitVec.ofNat 16 bs.length)).cpu := by
  induction bs with
  | nil => cases k <;> simp [State.sp]
  | cons b bs ih =>
    rw [pushBytes_cons, push8_cpu, State.sp_congr ih, State.setSP_cpu_congr ih, State.sp_setSP, State.setSP_setSP]
    congr 2
    simp only [List.length_cons]
    bv_omega

theorem pushBytes_sp (k : Stack) (bs : List Byte) (s : State) :
    (pushBytes k bs s).sp k = s.sp k - BitVec.ofNat 16 bs.length := by
  rw [State.sp_congr (pushBytes_cpu k bs s), State.sp_setSP]

theorem pushBytes_sp_other (k : Stack) (bs : List Byte) (s : State) :
    (pushBytes k bs s).sp k.other = s.sp k.other := by
  rw [State.sp_congr (pushBytes_cpu k bs s), State.sp_other_setSP]

/-- A cell without a callback that no pushed byte lands on is unchanged. -/
theorem pushBytes_cell {k : Stack} {bs : List Byte} {b : Word} {s : State} (hb : isIo b = false)
    (h : ¬ Within (s.sp k - BitVec.ofNat 16 bs.length) bs.length b) : (pushBytes k bs s).cell b = s.cell b := by
  induction bs with
  | nil => rfl
  | cons v bs ih =>
    have e : s.sp k - BitVec.ofNat 16 (bs.length + 1) + 1 = s.sp k - BitVec.ofNat 16 bs.length := by bv_omega
    rw [pushBytes_cons, push8_cell hb]
    · refine ih ?_
      rintro ⟨j, hj, rfl⟩
      refine h ⟨j + 1, by simpa using hj, ?_⟩
      simp only [List.length_cons]
      bv_omega
    · rw [pushBytes_sp]
      intro hv
      refine h ⟨0, by simp, ?_⟩
      simp only [List.length_cons]
      rw [hv]
      bv_omega

/-- The pushed bytes that land in RAM lie there in ascending order. -/
theorem pushBytes_ramHolds {k : Stack} {bs : List Byte} {s : State} (hw : s.mem.wf = true)
    (hl : bs.length ≤ 65536) : RamHolds (pushBytes k bs s) (s.sp k - BitVec.ofNat 16 bs.length) bs := by
  induction bs with
  | nil => intro j b hj; simp at hj
  | cons v bs ih =>
    have hl' : bs.length + 1 ≤ 65536 := by simpa using hl
    have e : s.sp k - BitVec.ofNat 16 (v :: bs).length = s.sp k - BitVec.ofNat 16 bs.length - 1 := by
      simp only [List.length_cons]; bv_omega
    intro j b hj hk
    rw [e] at hk ⊢
    rw [pushBytes_cons, push8]
    rw [pushBytes_sp]
    match j with
    | 0 =>
      simp only [List.getElem?_cons_zero, Option.some.injEq, BitVec.ofNat_eq_ofNat, BitVec.add_zero] at hj hk ⊢
      subst hj
      rw [write8_ram hk]
      exact State.cell_setCell_same (by simpa using pushBytes_wf hw k bs)
    | i + 1 =>
      simp only [List.getElem?_cons_succ] at hj
      have hi : i < bs.length := (List.getElem?_eq_some_iff.mp hj).1
      have e2 : s.sp k - BitVec.ofNat 16 bs.length - 1 + BitVec.ofNat 16 (i + 1) =
          s.sp k - BitVec.ofNat 16 bs.length + BitVec.ofNat 16 i := by bv_omega
      rw [e2] at hk ⊢
      rw [write8_cell (isIo_ram hk) (by bv_omega), State.setSP_cell]
      exact ih (by omega) i b hj hk

/-! ## Register lists and frames -/

/-- One register of a list: pushed on top of what is pushed already, or left out. -/
theorem doIf_pushBytes {k : Stack} {s : State} {f : State → State} {bs : List Byte}
    (h : ∀ xs, f (pushBytes k xs s) = pushBytes k bs (pushBytes k xs s)) (c : Bool) (xs : List Byte) :
    doIf c f (pushBytes k xs s) = pushBytes k ((if c then bs else []) ++ xs) s := by
  rw [pushBytes_append]
  cases c
  · rfl
  · exact h xs

/-- A push of a register list is a push of its image (41_load_store_transfer.md R172, R173, R175). -/
theorem pushList_eq (k : Stack) (list : Byte) (s : State) :
    pushList k list s = pushBytes k (listImage k list s) s := by
  have hpc := doIf_pushBytes (k := k) (s := s) (f := fun s => push16 k s.cpu.pc s) (bs := [hi s.cpu.pc, lo s.cpu.pc])
    fun xs => by rw [pushBytes_cpu, push16_eq]; cases k <;> rfl
  have ho := doIf_pushBytes (k := k) (s := s) (f := fun s => push16 k (s.sp k.other) s)
    (bs := [hi (s.sp k.other), lo (s.sp k.other)]) fun xs => by rw [pushBytes_sp_other, push16_eq]
  have hy := doIf_pushBytes (k := k) (s := s) (f := fun s => push16 k s.cpu.y s) (bs := [hi s.cpu.y, lo s.cpu.y])
    fun xs => by rw [pushBytes_cpu, push16_eq]; cases k <;> rfl
  have hx := doIf_pushBytes (k := k) (s := s) (f := fun s => push16 k s.cpu.x s) (bs := [hi s.cpu.x, lo s.cpu.x])
    fun xs => by rw [pushBytes_cpu, push16_eq]; cases k <;> rfl
  have hd := doIf_pushBytes (k := k) (s := s) (f := fun s => push8 k s.cpu.dp s) (bs := [s.cpu.dp])
    fun xs => by rw [pushBytes_cpu]; cases k <;> rfl
  have hb := doIf_pushBytes (k := k) (s := s) (f := fun s => push8 k s.cpu.b s) (bs := [s.cpu.b])
    fun xs => by rw [pushBytes_cpu]; cases k <;> rfl
  have ha := doIf_pushBytes (k := k) (s := s) (f := fun s => push8 k s.cpu.a s) (bs := [s.cpu.a])
    fun xs => by rw [pushBytes_cpu]; cases k <;> rfl
  have hc := doIf_pushBytes (k := k) (s := s) (f := fun s => push8 k (packCC s.cpu.cc) s) (bs := [packCC s.cpu.cc])
    fun xs => by rw [pushBytes_cpu]; cases k <;> rfl
  have h0 : s = pushBytes k [] s := rfl
  unfold pushList
  conv_lhs => rw [h0]
  simp only [hpc, ho, hy, hx, hd, hb, ha, hc, listImage, List.append_assoc, List.append_nil]

/-- The stack frame of an entry that pushes is a push of the frame's bytes (60_exceptions.md R466, R467). -/
theorem stackFrame_full {k : Interrupt} {s : State} (h : (s.ctl.cwaiStacked && k.isHardware) = false)
    (hk : k ≠ .firq) : stackFrame k s = pushBytes .system (fullFrame s) (s.setE true) := by
  simp only [stackFrame, h, Bool.false_eq_true, if_false, hk, pushFullFrame, pushList_eq]
  rfl

theorem stackFrame_short {s : State} (h : s.ctl.cwaiStacked = false) :
    stackFrame .firq s = pushBytes .system (shortFrame s) (s.setE false) := by
  simp only [stackFrame, h, Bool.false_and, Bool.false_eq_true, if_false, if_true, pushList_eq]
  rfl

theorem stackFrame_none {k : Interrupt} {s : State} (h : (s.ctl.cwaiStacked && k.isHardware) = true) :
    stackFrame k s = s.setCwaiStacked false := by
  simp only [stackFrame, h, if_true]

/-! ## Vectors -/

/-- The vectors an entry reads (20_memory.md R65). -/
theorem vector_mem (k : Interrupt) : vector k ∈ [(0xFFF2 : Word), 0xFFF4, 0xFFF6, 0xFFF8, 0xFFFA, 0xFFFC] := by
  cases k <;> decide

theorem vectorCells {v : Word} (h : v ∈ [(0xFFF2 : Word), 0xFFF4, 0xFFF6, 0xFFF8, 0xFFFA, 0xFFFC]) :
    cellKind v = .io .samVec ∧ cellKind (v + 1) = .io .samVec ∧ vectorTarget v = v - 0x4000 ∧
    vectorTarget (v + 1) = v - 0x4000 + 1 ∧ cellKind (v - 0x4000) = .rom ∧ cellKind (v - 0x4000 + 1) = .rom ∧
    v - 0x4000 + 1 ≠ v := by
  fin_cases h <;> decide

/-- A vector read answers the word 0x4000 lower and fills the two window cells (46_dev_sam.md R356, R357). -/
theorem memRead16_vector {v : Word} (h : v ∈ [(0xFFF2 : Word), 0xFFF4, 0xFFF6, 0xFFF8, 0xFFFA, 0xFFFC]) (s : State) :
    memRead16 v s =
      (s.word (v - 0x4000), (s.setCell v (s.cell (v - 0x4000))).setCell (v + 1) (s.cell (v - 0x4000 + 1))) := by
  obtain ⟨k1, k2, e1, e2, -, -, e3⟩ := vectorCells h
  simp only [memRead16, read8, k1, k2, ioRead, samVecRead, e1, e2]
  rw [State.cell_setCell_other e3]
  rfl

theorem maskFor_mem (k : Interrupt) (s : State) : (maskFor k s).mem = s.mem := by cases k <;> rfl

/-- After its frame is stacked, an entry changes no cell without a callback. -/
theorem enterInterrupt_cell {a : Word} (h : isIo a = false) (k : Interrupt) (s : State) :
    (enterInterrupt k s).cell a = (stackFrame k s).cell a := by
  unfold enterInterrupt loadVector
  rw [memRead16_vector (vector_mem k)]
  obtain ⟨k1, k2, -⟩ := vectorCells (vector_mem k)
  show (((maskFor k (stackFrame k s)).setCell _ _).setCell _ _).cell a = _
  rw [State.cell_setCell_other (ne_of_isIo h (isIo_io k2)), State.cell_setCell_other (ne_of_isIo h (isIo_io k1))]
  simp [State.cell, maskFor_mem]

/-- A frame in ROM cells is not written; the vectors are ROM cells. -/
theorem stackFrame_cell_rom {a : Word} (h : cellKind a = .rom) (k : Interrupt) (s : State) :
    (stackFrame k s).cell a = s.cell a := by
  unfold stackFrame
  split
  · rfl
  · split
    · rw [pushList_eq, pushBytes_cell_rom h]; rfl
    · rw [pushFullFrame, pushList_eq, pushBytes_cell_rom h]; rfl

end Sys2Proof.Machine
end

