-- ==== Sys2Proof/Laws/Operands.lean ====
section
/-! SUPPORT. What reading an operand and storing a result can do, said once, and N and Z of a value as numbers. -/

namespace Sys2Proof.Machine

/-! ## Signs -/

theorem signZero8 (v : Byte) : v.getLsbD 7 = decide (v.toInt < 0) ∧ (v == 0) = decide (v.toNat = 0) := by
  revert v
  decide

theorem sign16 (w : Word) : w.getLsbD 15 = decide (w.toInt < 0) := by
  rw [← BitVec.msb_eq_toInt]
  simp [BitVec.msb_eq_getLsbD_last]

theorem zero16 (w : Word) : (w == 0) = decide (w.toNat = 0) := by
  rw [Bool.eq_iff_iff]
  simp [← BitVec.toNat_inj]

/-! ## Reading -/

/-- Addressing moves X, Y, U or S and nothing else of the registers (40_addressing_modes.md R146). -/
theorem ea_regs (m : Mem) (s : State) :
    (ea m s).2.cpu.cc = s.cpu.cc ∧ (ea m s).2.cpu.a = s.cpu.a ∧ (ea m s).2.cpu.b = s.cpu.b ∧
    (ea m s).2.cpu.dp = s.cpu.dp ∧ (ea m s).2.cpu.pc = s.cpu.pc := by
  cases m with
  | direct d => simp [ea]
  | extended d => simp [ea]
  | indexed ix =>
    cases ix with
    | off5 r n => simp [ea, eaIndexed]
    | sub r i m => cases i <;> cases m <;> cases r <;> simp [ea, eaIndexed, autoUpdate, State.setIdx]

theorem operand8_regs (o : Src8) (s : State) :
    (operand8 o s).2.cpu.cc = s.cpu.cc ∧ (operand8 o s).2.cpu.a = s.cpu.a ∧ (operand8 o s).2.cpu.b = s.cpu.b ∧
    (operand8 o s).2.cpu.dp = s.cpu.dp ∧ (operand8 o s).2.cpu.pc = s.cpu.pc := by
  cases o with
  | imm v => simp [operand8]
  | mem m => simpa [operand8] using ea_regs m s

theorem operand16_regs (o : Src16) (s : State) :
    (operand16 o s).2.cpu.cc = s.cpu.cc ∧ (operand16 o s).2.cpu.a = s.cpu.a ∧ (operand16 o s).2.cpu.b = s.cpu.b ∧
    (operand16 o s).2.cpu.dp = s.cpu.dp ∧ (operand16 o s).2.cpu.pc = s.cpu.pc := by
  cases o with
  | imm v => simp [operand16]
  | mem m => simpa [operand16] using ea_regs m s

theorem operand8_cell (o : Src8) (s : State) : PlainCellsSame s (operand8 o s).2 := by
  intro a ha
  cases o with
  | imm v => simp [operand8]
  | mem m => simp [operand8, read8_cell ha, ea_cell ha]

theorem operand16_cell (o : Src16) (s : State) : PlainCellsSame s (operand16 o s).2 := by
  intro a ha
  cases o with
  | imm v => simp [operand16]
  | mem m => simp [operand16, memRead16_cell ha, ea_cell ha]

theorem operand8_wf {s : State} (h : s.mem.wf = true) (o : Src8) : (operand8 o s).2.mem.wf = true := by
  cases o with
  | imm v => exact h
  | mem m => exact read8_wf (ea_wf h m) _

theorem operand16_wf {s : State} (h : s.mem.wf = true) (o : Src16) : (operand16 o s).2.mem.wf = true := by
  cases o with
  | imm v => exact h
  | mem m => exact memRead16_wf (ea_wf h m) _

/-! ## Storing -/

theorem write8_cell_same {s : State} (h : s.mem.wf = true) {a : Word} (ha : cellKind a = .ram) (v : Byte) :
    (write8 a v s).cell a = v := by
  rw [write8_ram ha]
  exact State.cell_setCell_same h

/-- The halves of a stored word that land in RAM lie there, high byte first. -/
theorem memWrite16_ramHolds {s : State} (h : s.mem.wf = true) (a w : Word) :
    RamHolds (memWrite16 a w s) a [hi w, lo w] := by
  intro j b hb hk
  have hwf := write8_wf h a (hi w)
  match j with
  | 0 =>
    simp only [List.getElem?_cons_zero, Option.some.injEq, BitVec.add_zero] at hb hk ⊢
    subst hb
    unfold memWrite16
    rw [write8_cell (isIo_ram hk) (by intro h; exact absurd h (by bv_omega)), write8_cell_same h hk]
  | 1 =>
    simp only [List.getElem?_cons_succ, List.getElem?_cons_zero, Option.some.injEq] at hb
    subst hb
    unfold memWrite16
    exact write8_cell_same hwf hk _
  | j + 2 => simp at hb

end Sys2Proof.Machine
end

