-- ==== Sys2Proof/Laws/PerInstr.lean ====
section
/-! SUPPORT. One lemma per instruction: the decoder reads back what the encoder writes, whatever bytes follow. -/

namespace Sys2Proof.Laws.EncodeDecode

/-- Decoding the encoding of a well-formed instruction gives it back and leaves the following bytes. -/
def Statement (i : Instr) : Prop := i.wf = true → ∀ rest, decode (encode i ++ rest) = .instr i rest

theorem lda (o : Src8) : Statement (.lda o) := fun h rest =>
  src8_roundTrip (mk := .lda) (page := []) (fun _ _ => rfl) (fun _ _ => rfl) (fun _ => rfl) (fun _ _ _ => rfl) o h rest
theorem ldb (o : Src8) : Statement (.ldb o) := fun h rest =>
  src8_roundTrip (mk := .ldb) (page := []) (fun _ _ => rfl) (fun _ _ => rfl) (fun _ => rfl) (fun _ _ _ => rfl) o h rest
theorem ldd (o : Src16) : Statement (.ldd o) := fun h rest =>
  src16_roundTrip (mk := .ldd) (page := []) (fun _ _ _ => rfl) (fun _ _ => rfl) (fun _ => rfl) (fun _ _ _ => rfl) o h rest
theorem ldx (o : Src16) : Statement (.ldx o) := fun h rest =>
  src16_roundTrip (mk := .ldx) (page := []) (fun _ _ _ => rfl) (fun _ _ => rfl) (fun _ => rfl) (fun _ _ _ => rfl) o h rest
theorem ldy (o : Src16) : Statement (.ldy o) := fun h rest =>
  src16_roundTrip (mk := .ldy) (page := [0x10]) (fun _ _ _ => rfl) (fun _ _ => rfl) (fun _ => rfl) (fun _ _ _ => rfl) o h rest
theorem ldu (o : Src16) : Statement (.ldu o) := fun h rest =>
  src16_roundTrip (mk := .ldu) (page := []) (fun _ _ _ => rfl) (fun _ _ => rfl) (fun _ => rfl) (fun _ _ _ => rfl) o h rest
theorem lds (o : Src16) : Statement (.lds o) := fun h rest =>
  src16_roundTrip (mk := .lds) (page := [0x10]) (fun _ _ _ => rfl) (fun _ _ => rfl) (fun _ => rfl) (fun _ _ _ => rfl) o h rest
theorem sta (m : Mem) : Statement (.sta m) := fun h rest =>
  mem_roundTrip (mk := .sta) (page := []) (fun _ _ => rfl) (fun _ => rfl) (fun _ _ _ => rfl) m h rest
theorem stb (m : Mem) : Statement (.stb m) := fun h rest =>
  mem_roundTrip (mk := .stb) (page := []) (fun _ _ => rfl) (fun _ => rfl) (fun _ _ _ => rfl) m h rest
theorem std (m : Mem) : Statement (.std m) := fun h rest =>
  mem_roundTrip (mk := .std) (page := []) (fun _ _ => rfl) (fun _ => rfl) (fun _ _ _ => rfl) m h rest
theorem stx (m : Mem) : Statement (.stx m) := fun h rest =>
  mem_roundTrip (mk := .stx) (page := []) (fun _ _ => rfl) (fun _ => rfl) (fun _ _ _ => rfl) m h rest
theorem sty (m : Mem) : Statement (.sty m) := fun h rest =>
  mem_roundTrip (mk := .sty) (page := [0x10]) (fun _ _ => rfl) (fun _ => rfl) (fun _ _ _ => rfl) m h rest
theorem stu (m : Mem) : Statement (.stu m) := fun h rest =>
  mem_roundTrip (mk := .stu) (page := []) (fun _ _ => rfl) (fun _ => rfl) (fun _ _ _ => rfl) m h rest
theorem sts (m : Mem) : Statement (.sts m) := fun h rest =>
  mem_roundTrip (mk := .sts) (page := [0x10]) (fun _ _ => rfl) (fun _ => rfl) (fun _ _ _ => rfl) m h rest
theorem leax (ix : Indexed) : Statement (.leax ix) := fun h rest => parseIndexed_encode .leax ix h rest
theorem leay (ix : Indexed) : Statement (.leay ix) := fun h rest => parseIndexed_encode .leay ix h rest
theorem leas (ix : Indexed) : Statement (.leas ix) := fun h rest => parseIndexed_encode .leas ix h rest
theorem leau (ix : Indexed) : Statement (.leau ix) := fun h rest => parseIndexed_encode .leau ix h rest
theorem tfr (r1 r2 : Reg) : Statement (.tfr r1 r2) :=
  fun _ rest => parseRegs_encode .tfr r1 r2 rest
theorem exg (r1 r2 : Reg) : Statement (.exg r1 r2) :=
  fun _ rest => parseRegs_encode .exg r1 r2 rest
theorem pshs (v : Byte) : Statement (.pshs v) := fun _ _ => rfl
theorem puls (v : Byte) : Statement (.puls v) := fun _ _ => rfl
theorem pshu (v : Byte) : Statement (.pshu v) := fun _ _ => rfl
theorem pulu (v : Byte) : Statement (.pulu v) := fun _ _ => rfl
theorem adda (o : Src8) : Statement (.adda o) := fun h rest =>
  src8_roundTrip (mk := .adda) (page := []) (fun _ _ => rfl) (fun _ _ => rfl) (fun _ => rfl) (fun _ _ _ => rfl) o h rest
theorem addb (o : Src8) : Statement (.addb o) := fun h rest =>
  src8_roundTrip (mk := .addb) (page := []) (fun _ _ => rfl) (fun _ _ => rfl) (fun _ => rfl) (fun _ _ _ => rfl) o h rest
theorem addd (o : Src16) : Statement (.addd o) := fun h rest =>
  src16_roundTrip (mk := .addd) (page := []) (fun _ _ _ => rfl) (fun _ _ => rfl) (fun _ => rfl) (fun _ _ _ => rfl) o h rest
theorem adca (o : Src8) : Statement (.adca o) := fun h rest =>
  src8_roundTrip (mk := .adca) (page := []) (fun _ _ => rfl) (fun _ _ => rfl) (fun _ => rfl) (fun _ _ _ => rfl) o h rest
theorem adcb (o : Src8) : Statement (.adcb o) := fun h rest =>
  src8_roundTrip (mk := .adcb) (page := []) (fun _ _ => rfl) (fun _ _ => rfl) (fun _ => rfl) (fun _ _ _ => rfl) o h rest
theorem suba (o : Src8) : Statement (.suba o) := fun h rest =>
  src8_roundTrip (mk := .suba) (page := []) (fun _ _ => rfl) (fun _ _ => rfl) (fun _ => rfl) (fun _ _ _ => rfl) o h rest
theorem subb (o : Src8) : Statement (.subb o) := fun h rest =>
  src8_roundTrip (mk := .subb) (page := []) (fun _ _ => rfl) (fun _ _ => rfl) (fun _ => rfl) (fun _ _ _ => rfl) o h rest
theorem subd (o : Src16) : Statement (.subd o) := fun h rest =>
  src16_roundTrip (mk := .subd) (page := []) (fun _ _ _ => rfl) (fun _ _ => rfl) (fun _ => rfl) (fun _ _ _ => rfl) o h rest
theorem sbca (o : Src8) : Statement (.sbca o) := fun h rest =>
  src8_roundTrip (mk := .sbca) (page := []) (fun _ _ => rfl) (fun _ _ => rfl) (fun _ => rfl) (fun _ _ _ => rfl) o h rest
theorem sbcb (o : Src8) : Statement (.sbcb o) := fun h rest =>
  src8_roundTrip (mk := .sbcb) (page := []) (fun _ _ => rfl) (fun _ _ => rfl) (fun _ => rfl) (fun _ _ _ => rfl) o h rest
theorem cmpa (o : Src8) : Statement (.cmpa o) := fun h rest =>
  src8_roundTrip (mk := .cmpa) (page := []) (fun _ _ => rfl) (fun _ _ => rfl) (fun _ => rfl) (fun _ _ _ => rfl) o h rest
theorem cmpb (o : Src8) : Statement (.cmpb o) := fun h rest =>
  src8_roundTrip (mk := .cmpb) (page := []) (fun _ _ => rfl) (fun _ _ => rfl) (fun _ => rfl) (fun _ _ _ => rfl) o h rest
theorem cmpd (o : Src16) : Statement (.cmpd o) := fun h rest =>
  src16_roundTrip (mk := .cmpd) (page := [0x10]) (fun _ _ _ => rfl) (fun _ _ => rfl) (fun _ => rfl) (fun _ _ _ => rfl) o h rest
theorem cmpx (o : Src16) : Statement (.cmpx o) := fun h rest =>
  src16_roundTrip (mk := .cmpx) (page := []) (fun _ _ _ => rfl) (fun _ _ => rfl) (fun _ => rfl) (fun _ _ _ => rfl) o h rest
theorem cmpy (o : Src16) : Statement (.cmpy o) := fun h rest =>
  src16_roundTrip (mk := .cmpy) (page := [0x10]) (fun _ _ _ => rfl) (fun _ _ => rfl) (fun _ => rfl) (fun _ _ _ => rfl) o h rest
theorem cmpu (o : Src16) : Statement (.cmpu o) := fun h rest =>
  src16_roundTrip (mk := .cmpu) (page := [0x11]) (fun _ _ _ => rfl) (fun _ _ => rfl) (fun _ => rfl) (fun _ _ _ => rfl) o h rest
theorem cmps (o : Src16) : Statement (.cmps o) := fun h rest =>
  src16_roundTrip (mk := .cmps) (page := [0x11]) (fun _ _ _ => rfl) (fun _ _ => rfl) (fun _ => rfl) (fun _ _ _ => rfl) o h rest
theorem nega : Statement .nega := fun _ _ => rfl
theorem negb : Statement .negb := fun _ _ => rfl
theorem neg (m : Mem) : Statement (.neg m) := fun h rest =>
  mem_roundTrip (mk := .neg) (page := []) (fun _ _ => rfl) (fun _ => rfl) (fun _ _ _ => rfl) m h rest
theorem inca : Statement .inca := fun _ _ => rfl
theorem incb : Statement .incb := fun _ _ => rfl
theorem inc (m : Mem) : Statement (.inc m) := fun h rest =>
  mem_roundTrip (mk := .inc) (page := []) (fun _ _ => rfl) (fun _ => rfl) (fun _ _ _ => rfl) m h rest
theorem deca : Statement .deca := fun _ _ => rfl
theorem decb : Statement .decb := fun _ _ => rfl
theorem dec (m : Mem) : Statement (.dec m) := fun h rest =>
  mem_roundTrip (mk := .dec) (page := []) (fun _ _ => rfl) (fun _ => rfl) (fun _ _ _ => rfl) m h rest
theorem tsta : Statement .tsta := fun _ _ => rfl
theorem tstb : Statement .tstb := fun _ _ => rfl
theorem tst (m : Mem) : Statement (.tst m) := fun h rest =>
  mem_roundTrip (mk := .tst) (page := []) (fun _ _ => rfl) (fun _ => rfl) (fun _ _ _ => rfl) m h rest
theorem clra : Statement .clra := fun _ _ => rfl
theorem clrb : Statement .clrb := fun _ _ => rfl
theorem clr (m : Mem) : Statement (.clr m) := fun h rest =>
  mem_roundTrip (mk := .clr) (page := []) (fun _ _ => rfl) (fun _ => rfl) (fun _ _ _ => rfl) m h rest
theorem mul : Statement .mul := fun _ _ => rfl
theorem daa : Statement .daa := fun _ _ => rfl
theorem sex : Statement .sex := fun _ _ => rfl
theorem abx : Statement .abx := fun _ _ => rfl
theorem anda (o : Src8) : Statement (.anda o) := fun h rest =>
  src8_roundTrip (mk := .anda) (page := []) (fun _ _ => rfl) (fun _ _ => rfl) (fun _ => rfl) (fun _ _ _ => rfl) o h rest
theorem andb (o : Src8) : Statement (.andb o) := fun h rest =>
  src8_roundTrip (mk := .andb) (page := []) (fun _ _ => rfl) (fun _ _ => rfl) (fun _ => rfl) (fun _ _ _ => rfl) o h rest
theorem ora (o : Src8) : Statement (.ora o) := fun h rest =>
  src8_roundTrip (mk := .ora) (page := []) (fun _ _ => rfl) (fun _ _ => rfl) (fun _ => rfl) (fun _ _ _ => rfl) o h rest
theorem orb (o : Src8) : Statement (.orb o) := fun h rest =>
  src8_roundTrip (mk := .orb) (page := []) (fun _ _ => rfl) (fun _ _ => rfl) (fun _ => rfl) (fun _ _ _ => rfl) o h rest
theorem eora (o : Src8) : Statement (.eora o) := fun h rest =>
  src8_roundTrip (mk := .eora) (page := []) (fun _ _ => rfl) (fun _ _ => rfl) (fun _ => rfl) (fun _ _ _ => rfl) o h rest
theorem eorb (o : Src8) : Statement (.eorb o) := fun h rest =>
  src8_roundTrip (mk := .eorb) (page := []) (fun _ _ => rfl) (fun _ _ => rfl) (fun _ => rfl) (fun _ _ _ => rfl) o h rest
theorem bita (o : Src8) : Statement (.bita o) := fun h rest =>
  src8_roundTrip (mk := .bita) (page := []) (fun _ _ => rfl) (fun _ _ => rfl) (fun _ => rfl) (fun _ _ _ => rfl) o h rest
theorem bitb (o : Src8) : Statement (.bitb o) := fun h rest =>
  src8_roundTrip (mk := .bitb) (page := []) (fun _ _ => rfl) (fun _ _ => rfl) (fun _ => rfl) (fun _ _ _ => rfl) o h rest
theorem coma : Statement .coma := fun _ _ => rfl
theorem comb : Statement .comb := fun _ _ => rfl
theorem com (m : Mem) : Statement (.com m) := fun h rest =>
  mem_roundTrip (mk := .com) (page := []) (fun _ _ => rfl) (fun _ => rfl) (fun _ _ _ => rfl) m h rest
theorem andcc (v : Byte) : Statement (.andcc v) := fun _ _ => rfl
theorem orcc (v : Byte) : Statement (.orcc v) := fun _ _ => rfl
theorem asla : Statement .asla := fun _ _ => rfl
theorem aslb : Statement .aslb := fun _ _ => rfl
theorem asl (m : Mem) : Statement (.asl m) := fun h rest =>
  mem_roundTrip (mk := .asl) (page := []) (fun _ _ => rfl) (fun _ => rfl) (fun _ _ _ => rfl) m h rest
theorem asra : Statement .asra := fun _ _ => rfl
theorem asrb : Statement .asrb := fun _ _ => rfl
theorem asr (m : Mem) : Statement (.asr m) := fun h rest =>
  mem_roundTrip (mk := .asr) (page := []) (fun _ _ => rfl) (fun _ => rfl) (fun _ _ _ => rfl) m h rest
theorem lsra : Statement .lsra := fun _ _ => rfl
theorem lsrb : Statement .lsrb := fun _ _ => rfl
theorem lsr (m : Mem) : Statement (.lsr m) := fun h rest =>
  mem_roundTrip (mk := .lsr) (page := []) (fun _ _ => rfl) (fun _ => rfl) (fun _ _ _ => rfl) m h rest
theorem rola : Statement .rola := fun _ _ => rfl
theorem rolb : Statement .rolb := fun _ _ => rfl
theorem rol (m : Mem) : Statement (.rol m) := fun h rest =>
  mem_roundTrip (mk := .rol) (page := []) (fun _ _ => rfl) (fun _ => rfl) (fun _ _ _ => rfl) m h rest
theorem rora : Statement .rora := fun _ _ => rfl
theorem rorb : Statement .rorb := fun _ _ => rfl
theorem ror (m : Mem) : Statement (.ror m) := fun h rest =>
  mem_roundTrip (mk := .ror) (page := []) (fun _ _ => rfl) (fun _ => rfl) (fun _ _ _ => rfl) m h rest
theorem bra (v : Byte) : Statement (.bra v) := fun _ _ => rfl
theorem brn (v : Byte) : Statement (.brn v) := fun _ _ => rfl
theorem bhi (v : Byte) : Statement (.bhi v) := fun _ _ => rfl
theorem bls (v : Byte) : Statement (.bls v) := fun _ _ => rfl
theorem bcc (v : Byte) : Statement (.bcc v) := fun _ _ => rfl
theorem bcs (v : Byte) : Statement (.bcs v) := fun _ _ => rfl
theorem bne (v : Byte) : Statement (.bne v) := fun _ _ => rfl
theorem beq (v : Byte) : Statement (.beq v) := fun _ _ => rfl
theorem bvc (v : Byte) : Statement (.bvc v) := fun _ _ => rfl
theorem bvs (v : Byte) : Statement (.bvs v) := fun _ _ => rfl
theorem bpl (v : Byte) : Statement (.bpl v) := fun _ _ => rfl
theorem bmi (v : Byte) : Statement (.bmi v) := fun _ _ => rfl
theorem bge (v : Byte) : Statement (.bge v) := fun _ _ => rfl
theorem blt (v : Byte) : Statement (.blt v) := fun _ _ => rfl
theorem bgt (v : Byte) : Statement (.bgt v) := fun _ _ => rfl
theorem ble (v : Byte) : Statement (.ble v) := fun _ _ => rfl
theorem lbra (v : Word) : Statement (.lbra v) :=
  fun _ rest => word_roundTrip (mk := .lbra) (pre := [0x16]) (fun _ _ _ => rfl) v rest
theorem lbrn (v : Word) : Statement (.lbrn v) :=
  fun _ rest => word_roundTrip (mk := .lbrn) (pre := [0x10, 0x21]) (fun _ _ _ => rfl) v rest
theorem lbhi (v : Word) : Statement (.lbhi v) :=
  fun _ rest => word_roundTrip (mk := .lbhi) (pre := [0x10, 0x22]) (fun _ _ _ => rfl) v rest
theorem lbls (v : Word) : Statement (.lbls v) :=
  fun _ rest => word_roundTrip (mk := .lbls) (pre := [0x10, 0x23]) (fun _ _ _ => rfl) v rest
theorem lbcc (v : Word) : Statement (.lbcc v) :=
  fun _ rest => word_roundTrip (mk := .lbcc) (pre := [0x10, 0x24]) (fun _ _ _ => rfl) v rest
theorem lbcs (v : Word) : Statement (.lbcs v) :=
  fun _ rest => word_roundTrip (mk := .lbcs) (pre := [0x10, 0x25]) (fun _ _ _ => rfl) v rest
theorem lbne (v : Word) : Statement (.lbne v) :=
  fun _ rest => word_roundTrip (mk := .lbne) (pre := [0x10, 0x26]) (fun _ _ _ => rfl) v rest
theorem lbeq (v : Word) : Statement (.lbeq v) :=
  fun _ rest => word_roundTrip (mk := .lbeq) (pre := [0x10, 0x27]) (fun _ _ _ => rfl) v rest
theorem lbvc (v : Word) : Statement (.lbvc v) :=
  fun _ rest => word_roundTrip (mk := .lbvc) (pre := [0x10, 0x28]) (fun _ _ _ => rfl) v rest
theorem lbvs (v : Word) : Statement (.lbvs v) :=
  fun _ rest => word_roundTrip (mk := .lbvs) (pre := [0x10, 0x29]) (fun _ _ _ => rfl) v rest
theorem lbpl (v : Word) : Statement (.lbpl v) :=
  fun _ rest => word_roundTrip (mk := .lbpl) (pre := [0x10, 0x2a]) (fun _ _ _ => rfl) v rest
theorem lbmi (v : Word) : Statement (.lbmi v) :=
  fun _ rest => word_roundTrip (mk := .lbmi) (pre := [0x10, 0x2b]) (fun _ _ _ => rfl) v rest
theorem lbge (v : Word) : Statement (.lbge v) :=
  fun _ rest => word_roundTrip (mk := .lbge) (pre := [0x10, 0x2c]) (fun _ _ _ => rfl) v rest
theorem lblt (v : Word) : Statement (.lblt v) :=
  fun _ rest => word_roundTrip (mk := .lblt) (pre := [0x10, 0x2d]) (fun _ _ _ => rfl) v rest
theorem lbgt (v : Word) : Statement (.lbgt v) :=
  fun _ rest => word_roundTrip (mk := .lbgt) (pre := [0x10, 0x2e]) (fun _ _ _ => rfl) v rest
theorem lble (v : Word) : Statement (.lble v) :=
  fun _ rest => word_roundTrip (mk := .lble) (pre := [0x10, 0x2f]) (fun _ _ _ => rfl) v rest
theorem jmp (m : Mem) : Statement (.jmp m) := fun h rest =>
  mem_roundTrip (mk := .jmp) (page := []) (fun _ _ => rfl) (fun _ => rfl) (fun _ _ _ => rfl) m h rest
theorem jsr (m : Mem) : Statement (.jsr m) := fun h rest =>
  mem_roundTrip (mk := .jsr) (page := []) (fun _ _ => rfl) (fun _ => rfl) (fun _ _ _ => rfl) m h rest
theorem bsr (v : Byte) : Statement (.bsr v) := fun _ _ => rfl
theorem lbsr (v : Word) : Statement (.lbsr v) :=
  fun _ rest => word_roundTrip (mk := .lbsr) (pre := [0x17]) (fun _ _ _ => rfl) v rest
theorem rts : Statement .rts := fun _ _ => rfl
theorem nop : Statement .nop := fun _ _ => rfl
theorem swi : Statement .swi := fun _ _ => rfl
theorem swi2 : Statement .swi2 := fun _ _ => rfl
theorem swi3 : Statement .swi3 := fun _ _ => rfl
theorem rti : Statement .rti := fun _ _ => rfl
theorem cwai (v : Byte) : Statement (.cwai v) := fun _ _ => rfl
theorem sync : Statement .sync := fun _ _ => rfl

end Sys2Proof.Laws.EncodeDecode
end

