-- ==== Sys2Proof/Laws/Step.lean ====
section
/-! SUPPORT. The fetch and the step, said once: a fetch from cells without a callback is the pure decoder on the bytes
there and moves nothing but PC; a step that is ready to run is the fetch and the instruction. -/

namespace Sys2Proof.Machine

/-- The next byte, from a cell without a callback. -/
theorem fetch8_plain {s : State} (h : isIo s.cpu.pc = false) :
    fetch8 s = (s.cell s.cpu.pc, s.setPC (s.cpu.pc + 1)) := by
  simp only [fetch8, read8_plain h]

/-- Which bytes lie where is a matter of the cells alone. -/
theorem BytesAt.congr {s t : State} {a : Word} {bs : List Byte} (h : BytesAt s a bs) (hm : t.mem = s.mem) :
    BytesAt t a bs := by
  induction bs generalizing a with
  | nil => trivial
  | cons b bs ih => exact ⟨h.1, by rw [State.cell, hm]; exact h.2.1, ih h.2.2⟩

theorem setPC_setPC (s : State) (v w : Word) : (s.setPC v).setPC w = s.setPC w := rfl

/-- A fetch that succeeds: the decoder's instruction, its bytes counted, PC past them. -/
theorem fetchParse_instr {p : Parse Instr} {bs rest : List Byte} {i : Instr} {n : Nat} {s : State}
    (h : BytesAt s s.cpu.pc bs) (hd : runParse p bs = .instr i rest) :
    ∃ k, bs.length = k + rest.length ∧
      fetchParse p n s = .instr i (n + k) (s.setPC (s.cpu.pc + BitVec.ofNat 16 k)) := by
  induction p generalizing bs n s with
  | done j =>
    simp only [runParse, Decoded.instr.injEq] at hd
    obtain ⟨rfl, rfl⟩ := hd
    exact ⟨0, by omega, by simp [fetchParse, State.setPC]⟩
  | reject c => simp [runParse] at hd
  | need f ih =>
    cases bs with
    | nil => simp [runParse] at hd
    | cons b bs =>
      obtain ⟨h1, h2, h3⟩ := h
      simp only [runParse] at hd
      obtain ⟨k, hk, he⟩ := ih b (n := n + 1) (s := s.setPC (s.cpu.pc + 1)) (h3.congr rfl) hd
      refine ⟨k + 1, by simp only [List.length_cons]; omega, ?_⟩
      simp only [fetchParse, fetch8_plain h1, h2, he, setPC_setPC, State.setPC_cpu, Fetched.instr.injEq, true_and]
      refine ⟨by omega, ?_⟩
      congr 1
      bv_omega

/-- A fetch that the decoder rejects: no more than PC has moved. -/
theorem fetchParse_rejected {p : Parse Instr} {bs : List Byte} {c : ExcCause} {n : Nat} {s : State}
    (h : BytesAt s s.cpu.pc bs) (hd : runParse p bs = .rejected c) :
    ∃ k, k ≤ bs.length ∧ fetchParse p n s = .rejected c (n + k) (s.setPC (s.cpu.pc + BitVec.ofNat 16 k)) := by
  induction p generalizing bs n s with
  | done j => simp [runParse] at hd
  | reject d =>
    simp only [runParse, Decoded.rejected.injEq] at hd
    subst hd
    exact ⟨0, by omega, by simp [fetchParse, State.setPC]⟩
  | need f ih =>
    cases bs with
    | nil => simp [runParse] at hd
    | cons b bs =>
      obtain ⟨h1, h2, h3⟩ := h
      simp only [runParse] at hd
      obtain ⟨k, hk, he⟩ := ih b (n := n + 1) (s := s.setPC (s.cpu.pc + 1)) (h3.congr rfl) hd
      refine ⟨k + 1, by simp only [List.length_cons]; omega, ?_⟩
      simp only [fetchParse, fetch8_plain h1, h2, he, setPC_setPC, State.setPC_cpu, Fetched.rejected.injEq, true_and]
      refine ⟨by omega, ?_⟩
      congr 1
      bv_omega

/-- With nothing to sample and no wait, the step is the fetch and the instruction (60_exceptions.md R460 step 5). -/
theorem step_ready {s : State} (h : ReadyToRun s) : step s = executeNext s := by
  obtain ⟨h1, h2, h3, h4, h5, h6, h7⟩ := h
  have hp : pendingInterrupt s = none := by simp [pendingInterrupt, h5, h6, h7]
  simp [step, stepOnce, h1, h2, h3, runStep, hp, h4]

end Sys2Proof.Machine
end

