-- ==== Sys2Proof/Tests/Slice0.lean ====
section
/-! SUPPORT. The tests of the model. Expected results come from the spec: the rows of spec/opcode_table.json and the
vectors of spec/95_test_vectors.md, whose names stand in the comments. Those vectors use a flat RAM with the vectors at
0xFFF2; here they run on the machine's own fabric, where a read of the window answers the byte 0x4000 lower. Then, for
every obligation with hypotheses, a witness that meets them. -/

namespace Sys2Proof.Tests

open Sys2Proof Sys2Proof.Machine

/-! ## Well-formed terms -/

/-- The checks of the syntax refuse these (30_encoding.md R105): an indirect `,R+`, an indirect `,-R`, a `[n16]`
without the indirect bit; and, an operand deep inside, in each of the three operand shapes. -/
theorem test_ill_formed_terms_are_refused :
    Indexed.wf (.sub .x true .postInc1) = false ∧ Indexed.wf (.sub .s true .preDec1) = false ∧
    Indexed.wf (.sub .y false (.extended 0x1234)) = false ∧ Mem.wf (.indexed (.sub .x true .postInc1)) = false ∧
    Src8.wf (.mem (.indexed (.sub .u true .preDec1))) = false ∧
    Src16.wf (.mem (.indexed (.sub .u false (.extended 0)))) = false ∧
    Instr.wf (.lda (.mem (.indexed (.sub .x true .postInc1)))) = false ∧
    Instr.wf (.ldx (.mem (.indexed (.sub .x true .preDec1)))) = false ∧
    Instr.wf (.clr (.indexed (.sub .x false (.extended 0)))) = false ∧
    Instr.wf (.leax (.sub .x true .postInc1)) = false := by
  decide

/-! ## Decoding -/

/-- Every word decodes to its instruction, with nothing left over, and is that instruction's encoding. -/
def decodes (ps : List (List Byte × Instr)) : Bool := ps.all fun p => decode p.1 == .instr p.2 [] && encode p.2 == p.1

/-- Words of 41_load_store_transfer.md, R151 to R158, written from the rows of the opcode table. -/
theorem test_decode_load_store_1 : decodes [
    ([0x86, 0x5A], .lda (.imm 0x5A)), ([0x96, 0x34], .lda (.mem (.direct 0x34))),
    ([0xA6, 0xD9, 0x80, 0x01], .lda (.mem (.indexed (.sub .u true (.off16 0x8001))))),
    ([0xB6, 0x12, 0x34], .lda (.mem (.extended 0x1234))), ([0xC6, 0x5A], .ldb (.imm 0x5A)),
    ([0xD6, 0x34], .ldb (.mem (.direct 0x34))), ([0xE6, 0xC6], .ldb (.mem (.indexed (.sub .u false .offA)))),
    ([0xF6, 0x12, 0x34], .ldb (.mem (.extended 0x1234))), ([0xCC, 0x89, 0xAB], .ldd (.imm 0x89AB)),
    ([0xDC, 0x34], .ldd (.mem (.direct 0x34))), ([0xEC, 0x91], .ldd (.mem (.indexed (.sub .x true .postInc2)))),
    ([0xFC, 0x12, 0x34], .ldd (.mem (.extended 0x1234))), ([0x8E, 0x89, 0xAB], .ldx (.imm 0x89AB)),
    ([0x9E, 0x34], .ldx (.mem (.direct 0x34))), ([0xAE, 0x4F], .ldx (.mem (.indexed (.off5 .u 15)))),
    ([0xBE, 0x12, 0x34], .ldx (.mem (.extended 0x1234))), ([0x10, 0x8E, 0x89, 0xAB], .ldy (.imm 0x89AB)),
    ([0x10, 0x9E, 0x34], .ldy (.mem (.direct 0x34))),
    ([0x10, 0xAE, 0xD9, 0x80, 0x01], .ldy (.mem (.indexed (.sub .u true (.off16 0x8001))))),
    ([0x10, 0xBE, 0x12, 0x34], .ldy (.mem (.extended 0x1234))), ([0xCE, 0x89, 0xAB], .ldu (.imm 0x89AB)),
    ([0xDE, 0x34], .ldu (.mem (.direct 0x34))), ([0xEE, 0xD4], .ldu (.mem (.indexed (.sub .u true .noOffset)))),
    ([0xFE, 0x12, 0x34], .ldu (.mem (.extended 0x1234))), ([0x10, 0xCE, 0x89, 0xAB], .lds (.imm 0x89AB)),
    ([0x10, 0xDE, 0x34], .lds (.mem (.direct 0x34))),
    ([0x10, 0xEE, 0x9C, 0x10], .lds (.mem (.indexed (.sub .x true (.pc8 0x10))))),
    ([0x10, 0xFE, 0x12, 0x34], .lds (.mem (.extended 0x1234))), ([0x97, 0x34], .sta (.direct 0x34)),
    ([0xA7, 0xFB], .sta (.indexed (.sub .s true .offD))),
    ([0xB7, 0x12, 0x34], .sta (.extended 0x1234))] = true := by
  decide +kernel

/-- Words of 41_load_store_transfer.md, R159 to R176, written from the rows of the opcode table. -/
theorem test_decode_load_store_2 : decodes [
    ([0xD7, 0x34], .stb (.direct 0x34)), ([0xE7, 0xE8, 0x80], .stb (.indexed (.sub .s false (.off8 0x80)))),
    ([0xF7, 0x12, 0x34], .stb (.extended 0x1234)), ([0xDD, 0x34], .std (.direct 0x34)),
    ([0xED, 0xB3], .std (.indexed (.sub .y true .preDec2))), ([0xFD, 0x12, 0x34], .std (.extended 0x1234)),
    ([0x9F, 0x34], .stx (.direct 0x34)), ([0xAF, 0x60], .stx (.indexed (.off5 .s 0))),
    ([0xBF, 0x12, 0x34], .stx (.extended 0x1234)), ([0x10, 0x9F, 0x34], .sty (.direct 0x34)),
    ([0x10, 0xAF, 0xFB], .sty (.indexed (.sub .s true .offD))),
    ([0x10, 0xBF, 0x12, 0x34], .sty (.extended 0x1234)), ([0xDF, 0x34], .stu (.direct 0x34)),
    ([0xEF, 0xF5], .stu (.indexed (.sub .s true .offB))), ([0xFF, 0x12, 0x34], .stu (.extended 0x1234)),
    ([0x10, 0xDF, 0x34], .sts (.direct 0x34)),
    ([0x10, 0xEF, 0xBD, 0x10, 0x20], .sts (.indexed (.sub .y true (.pc16 0x1020)))),
    ([0x10, 0xFF, 0x12, 0x34], .sts (.extended 0x1234)), ([0x30, 0x1F], .leax (.off5 .x (-1))),
    ([0x31, 0x30], .leay (.off5 .y (-16))), ([0x32, 0x4F], .leas (.off5 .u 15)),
    ([0x33, 0x60], .leau (.off5 .s 0)), ([0x1F, 0x8B], .tfr .a .dp), ([0x1F, 0x05], .tfr .d .pc),
    ([0x1E, 0x9A], .exg .b .cc), ([0x1E, 0x34], .exg .u .s), ([0x34, 0x5A], .pshs 0x5A),
    ([0x35, 0x5A], .puls 0x5A), ([0x36, 0x5A], .pshu 0x5A), ([0x37, 0x5A], .pulu 0x5A)] = true := by
  decide +kernel

/-- Words of 42_arithmetic.md, R192 to R200, written from the rows of the opcode table. -/
theorem test_decode_arithmetic_1 : decodes [
    ([0x8B, 0x5A], .adda (.imm 0x5A)), ([0x9B, 0x34], .adda (.mem (.direct 0x34))),
    ([0xAB, 0xFF, 0x40, 0x05], .adda (.mem (.indexed (.sub .s true (.extended 0x4005))))),
    ([0xBB, 0x12, 0x34], .adda (.mem (.extended 0x1234))), ([0xCB, 0x5A], .addb (.imm 0x5A)),
    ([0xDB, 0x34], .addb (.mem (.direct 0x34))),
    ([0xEB, 0xED, 0xFE, 0xDC], .addb (.mem (.indexed (.sub .s false (.pc16 0xFEDC))))),
    ([0xFB, 0x12, 0x34], .addb (.mem (.extended 0x1234))), ([0xC3, 0x89, 0xAB], .addd (.imm 0x89AB)),
    ([0xD3, 0x34], .addd (.mem (.direct 0x34))), ([0xE3, 0xE3], .addd (.mem (.indexed (.sub .s false .preDec2)))),
    ([0xF3, 0x12, 0x34], .addd (.mem (.extended 0x1234))), ([0x89, 0x5A], .adca (.imm 0x5A)),
    ([0x99, 0x34], .adca (.mem (.direct 0x34))),
    ([0xA9, 0xBD, 0x10, 0x20], .adca (.mem (.indexed (.sub .y true (.pc16 0x1020))))),
    ([0xB9, 0x12, 0x34], .adca (.mem (.extended 0x1234))), ([0xC9, 0x5A], .adcb (.imm 0x5A)),
    ([0xD9, 0x34], .adcb (.mem (.direct 0x34))), ([0xE9, 0xAB], .adcb (.mem (.indexed (.sub .y false .offD)))),
    ([0xF9, 0x12, 0x34], .adcb (.mem (.extended 0x1234))), ([0x80, 0x5A], .suba (.imm 0x5A)),
    ([0x90, 0x34], .suba (.mem (.direct 0x34))), ([0xA0, 0x91], .suba (.mem (.indexed (.sub .x true .postInc2)))),
    ([0xB0, 0x12, 0x34], .suba (.mem (.extended 0x1234))), ([0xC0, 0x5A], .subb (.imm 0x5A)),
    ([0xD0, 0x34], .subb (.mem (.direct 0x34))),
    ([0xE0, 0x80], .subb (.mem (.indexed (.sub .x false .postInc1)))),
    ([0xF0, 0x12, 0x34], .subb (.mem (.extended 0x1234))), ([0x83, 0x89, 0xAB], .subd (.imm 0x89AB)),
    ([0x93, 0x34], .subd (.mem (.direct 0x34))), ([0xA3, 0xF5], .subd (.mem (.indexed (.sub .s true .offB)))),
    ([0xB3, 0x12, 0x34], .subd (.mem (.extended 0x1234))), ([0x82, 0x5A], .sbca (.imm 0x5A))] = true := by
  decide +kernel

/-- Words of 42_arithmetic.md, R200 to R208, written from the rows of the opcode table. -/
theorem test_decode_arithmetic_2 : decodes [
    ([0x92, 0x34], .sbca (.mem (.direct 0x34))), ([0xA2, 0xD4], .sbca (.mem (.indexed (.sub .u true .noOffset)))),
    ([0xB2, 0x12, 0x34], .sbca (.mem (.extended 0x1234))), ([0xC2, 0x5A], .sbcb (.imm 0x5A)),
    ([0xD2, 0x34], .sbcb (.mem (.direct 0x34))), ([0xE2, 0xC2], .sbcb (.mem (.indexed (.sub .u false .preDec1)))),
    ([0xF2, 0x12, 0x34], .sbcb (.mem (.extended 0x1234))), ([0x81, 0x5A], .cmpa (.imm 0x5A)),
    ([0x91, 0x34], .cmpa (.mem (.direct 0x34))), ([0xA1, 0xB3], .cmpa (.mem (.indexed (.sub .y true .preDec2)))),
    ([0xB1, 0x12, 0x34], .cmpa (.mem (.extended 0x1234))), ([0xC1, 0x5A], .cmpb (.imm 0x5A)),
    ([0xD1, 0x34], .cmpb (.mem (.direct 0x34))),
    ([0xE1, 0xA1], .cmpb (.mem (.indexed (.sub .y false .postInc2)))),
    ([0xF1, 0x12, 0x34], .cmpb (.mem (.extended 0x1234))), ([0x10, 0x83, 0x89, 0xAB], .cmpd (.imm 0x89AB)),
    ([0x10, 0x93, 0x34], .cmpd (.mem (.direct 0x34))),
    ([0x10, 0xA3, 0x96], .cmpd (.mem (.indexed (.sub .x true .offA)))),
    ([0x10, 0xB3, 0x12, 0x34], .cmpd (.mem (.extended 0x1234))), ([0x8C, 0x89, 0xAB], .cmpx (.imm 0x89AB)),
    ([0x9C, 0x34], .cmpx (.mem (.direct 0x34))), ([0xAC, 0x1F], .cmpx (.mem (.indexed (.off5 .x (-1))))),
    ([0xBC, 0x12, 0x34], .cmpx (.mem (.extended 0x1234))), ([0x10, 0x8C, 0x89, 0xAB], .cmpy (.imm 0x89AB)),
    ([0x10, 0x9C, 0x34], .cmpy (.mem (.direct 0x34))),
    ([0x10, 0xAC, 0xB8, 0x7F], .cmpy (.mem (.indexed (.sub .y true (.off8 0x7F))))),
    ([0x10, 0xBC, 0x12, 0x34], .cmpy (.mem (.extended 0x1234))), ([0x11, 0x83, 0x89, 0xAB], .cmpu (.imm 0x89AB)),
    ([0x11, 0x93, 0x34], .cmpu (.mem (.direct 0x34))),
    ([0x11, 0xA3, 0x9F, 0x30, 0x00], .cmpu (.mem (.indexed (.sub .x true (.extended 0x3000))))),
    ([0x11, 0xB3, 0x12, 0x34], .cmpu (.mem (.extended 0x1234))), ([0x11, 0x8C, 0x89, 0xAB], .cmps (.imm 0x89AB)),
    ([0x11, 0x9C, 0x34], .cmps (.mem (.direct 0x34)))] = true := by
  decide +kernel

/-- Words of 42_arithmetic.md, R208 to R228, written from the rows of the opcode table. -/
theorem test_decode_arithmetic_3 : decodes [
    ([0x11, 0xAC, 0xFF, 0x40, 0x05], .cmps (.mem (.indexed (.sub .s true (.extended 0x4005))))),
    ([0x11, 0xBC, 0x12, 0x34], .cmps (.mem (.extended 0x1234))), ([0x40], .nega), ([0x50], .negb),
    ([0x00, 0x34], .neg (.direct 0x34)), ([0x60, 0x80], .neg (.indexed (.sub .x false .postInc1))),
    ([0x70, 0x12, 0x34], .neg (.extended 0x1234)), ([0x4C], .inca), ([0x5C], .incb),
    ([0x0C, 0x34], .inc (.direct 0x34)),
    ([0x6C, 0x89, 0x12, 0x34], .inc (.indexed (.sub .x false (.off16 0x1234)))),
    ([0x7C, 0x12, 0x34], .inc (.extended 0x1234)), ([0x4A], .deca), ([0x5A], .decb),
    ([0x0A, 0x34], .dec (.direct 0x34)), ([0x6A, 0xE8, 0x80], .dec (.indexed (.sub .s false (.off8 0x80)))),
    ([0x7A, 0x12, 0x34], .dec (.extended 0x1234)), ([0x4D], .tsta), ([0x5D], .tstb),
    ([0x0D, 0x34], .tst (.direct 0x34)), ([0x6D, 0xAB], .tst (.indexed (.sub .y false .offD))),
    ([0x7D, 0x12, 0x34], .tst (.extended 0x1234)), ([0x4F], .clra), ([0x5F], .clrb),
    ([0x0F, 0x34], .clr (.direct 0x34)),
    ([0x6F, 0xED, 0xFE, 0xDC], .clr (.indexed (.sub .s false (.pc16 0xFEDC)))),
    ([0x7F, 0x12, 0x34], .clr (.extended 0x1234)), ([0x3D], .mul), ([0x19], .daa), ([0x1D], .sex),
    ([0x3A], .abx)] = true := by
  decide +kernel

/-- Words of 43_logic_shift.md, R240 to R247, written from the rows of the opcode table. -/
theorem test_decode_logic_shift_1 : decodes [
    ([0x84, 0x5A], .anda (.imm 0x5A)), ([0x94, 0x34], .anda (.mem (.direct 0x34))),
    ([0xA4, 0x96], .anda (.mem (.indexed (.sub .x true .offA)))),
    ([0xB4, 0x12, 0x34], .anda (.mem (.extended 0x1234))), ([0xC4, 0x5A], .andb (.imm 0x5A)),
    ([0xD4, 0x34], .andb (.mem (.direct 0x34))),
    ([0xE4, 0x84], .andb (.mem (.indexed (.sub .x false .noOffset)))),
    ([0xF4, 0x12, 0x34], .andb (.mem (.extended 0x1234))), ([0x8A, 0x5A], .ora (.imm 0x5A)),
    ([0x9A, 0x34], .ora (.mem (.direct 0x34))),
    ([0xAA, 0x9F, 0x30, 0x00], .ora (.mem (.indexed (.sub .x true (.extended 0x3000))))),
    ([0xBA, 0x12, 0x34], .ora (.mem (.extended 0x1234))), ([0xCA, 0x5A], .orb (.imm 0x5A)),
    ([0xDA, 0x34], .orb (.mem (.direct 0x34))),
    ([0xEA, 0xCC, 0x56], .orb (.mem (.indexed (.sub .u false (.pc8 0x56))))),
    ([0xFA, 0x12, 0x34], .orb (.mem (.extended 0x1234))), ([0x88, 0x5A], .eora (.imm 0x5A)),
    ([0x98, 0x34], .eora (.mem (.direct 0x34))),
    ([0xA8, 0x9C, 0x10], .eora (.mem (.indexed (.sub .x true (.pc8 0x10))))),
    ([0xB8, 0x12, 0x34], .eora (.mem (.extended 0x1234))), ([0xC8, 0x5A], .eorb (.imm 0x5A)),
    ([0xD8, 0x34], .eorb (.mem (.direct 0x34))),
    ([0xE8, 0x89, 0x12, 0x34], .eorb (.mem (.indexed (.sub .x false (.off16 0x1234))))),
    ([0xF8, 0x12, 0x34], .eorb (.mem (.extended 0x1234))), ([0x85, 0x5A], .bita (.imm 0x5A)),
    ([0x95, 0x34], .bita (.mem (.direct 0x34))),
    ([0xA5, 0xB8, 0x7F], .bita (.mem (.indexed (.sub .y true (.off8 0x7F))))),
    ([0xB5, 0x12, 0x34], .bita (.mem (.extended 0x1234))), ([0xC5, 0x5A], .bitb (.imm 0x5A)),
    ([0xD5, 0x34], .bitb (.mem (.direct 0x34))), ([0xE5, 0xA5], .bitb (.mem (.indexed (.sub .y false .offB)))),
    ([0xF5, 0x12, 0x34], .bitb (.mem (.extended 0x1234)))] = true := by
  decide +kernel

/-- Words of 43_logic_shift.md, R248 to R267, written from the rows of the opcode table. -/
theorem test_decode_logic_shift_2 : decodes [
    ([0x43], .coma), ([0x53], .comb), ([0x03, 0x34], .com (.direct 0x34)),
    ([0x63, 0xA1], .com (.indexed (.sub .y false .postInc2))), ([0x73, 0x12, 0x34], .com (.extended 0x1234)),
    ([0x1C, 0x5A], .andcc 0x5A), ([0x1A, 0x5A], .orcc 0x5A), ([0x48], .asla), ([0x58], .aslb),
    ([0x08, 0x34], .asl (.direct 0x34)), ([0x68, 0xA5], .asl (.indexed (.sub .y false .offB))),
    ([0x78, 0x12, 0x34], .asl (.extended 0x1234)), ([0x47], .asra), ([0x57], .asrb),
    ([0x07, 0x34], .asr (.direct 0x34)), ([0x67, 0x84], .asr (.indexed (.sub .x false .noOffset))),
    ([0x77, 0x12, 0x34], .asr (.extended 0x1234)), ([0x44], .lsra), ([0x54], .lsrb),
    ([0x04, 0x34], .lsr (.direct 0x34)), ([0x64, 0xC2], .lsr (.indexed (.sub .u false .preDec1))),
    ([0x74, 0x12, 0x34], .lsr (.extended 0x1234)), ([0x49], .rola), ([0x59], .rolb),
    ([0x09, 0x34], .rol (.direct 0x34)), ([0x69, 0xC6], .rol (.indexed (.sub .u false .offA))),
    ([0x79, 0x12, 0x34], .rol (.extended 0x1234)), ([0x46], .rora), ([0x56], .rorb),
    ([0x06, 0x34], .ror (.direct 0x34)), ([0x66, 0xE3], .ror (.indexed (.sub .s false .preDec2))),
    ([0x76, 0x12, 0x34], .ror (.extended 0x1234))] = true := by
  decide +kernel

/-- Words of 44_branch_jump.md, R282 to R302, written from the rows of the opcode table. -/
theorem test_decode_branch_jump_1 : decodes [
    ([0x20, 0xFE], .bra 0xFE), ([0x21, 0xFE], .brn 0xFE), ([0x22, 0xFE], .bhi 0xFE), ([0x23, 0xFE], .bls 0xFE),
    ([0x24, 0xFE], .bcc 0xFE), ([0x25, 0xFE], .bcs 0xFE), ([0x26, 0xFE], .bne 0xFE), ([0x27, 0xFE], .beq 0xFE),
    ([0x28, 0xFE], .bvc 0xFE), ([0x29, 0xFE], .bvs 0xFE), ([0x2A, 0xFE], .bpl 0xFE), ([0x2B, 0xFE], .bmi 0xFE),
    ([0x2C, 0xFE], .bge 0xFE), ([0x2D, 0xFE], .blt 0xFE), ([0x2E, 0xFE], .bgt 0xFE), ([0x2F, 0xFE], .ble 0xFE),
    ([0x16, 0xFE, 0x80], .lbra 0xFE80), ([0x10, 0x21, 0xFE, 0x80], .lbrn 0xFE80),
    ([0x10, 0x22, 0xFE, 0x80], .lbhi 0xFE80), ([0x10, 0x23, 0xFE, 0x80], .lbls 0xFE80),
    ([0x10, 0x24, 0xFE, 0x80], .lbcc 0xFE80)] = true := by
  decide +kernel

/-- Words of 44_branch_jump.md, R303 to R319, written from the rows of the opcode table. -/
theorem test_decode_branch_jump_2 : decodes [
    ([0x10, 0x25, 0xFE, 0x80], .lbcs 0xFE80), ([0x10, 0x26, 0xFE, 0x80], .lbne 0xFE80),
    ([0x10, 0x27, 0xFE, 0x80], .lbeq 0xFE80), ([0x10, 0x28, 0xFE, 0x80], .lbvc 0xFE80),
    ([0x10, 0x29, 0xFE, 0x80], .lbvs 0xFE80), ([0x10, 0x2A, 0xFE, 0x80], .lbpl 0xFE80),
    ([0x10, 0x2B, 0xFE, 0x80], .lbmi 0xFE80), ([0x10, 0x2C, 0xFE, 0x80], .lbge 0xFE80),
    ([0x10, 0x2D, 0xFE, 0x80], .lblt 0xFE80), ([0x10, 0x2E, 0xFE, 0x80], .lbgt 0xFE80),
    ([0x10, 0x2F, 0xFE, 0x80], .lble 0xFE80), ([0x0E, 0x34], .jmp (.direct 0x34)),
    ([0x6E, 0xCC, 0x56], .jmp (.indexed (.sub .u false (.pc8 0x56)))),
    ([0x7E, 0x12, 0x34], .jmp (.extended 0x1234)), ([0x9D, 0x34], .jsr (.direct 0x34)),
    ([0xAD, 0x30], .jsr (.indexed (.off5 .y (-16)))), ([0xBD, 0x12, 0x34], .jsr (.extended 0x1234)),
    ([0x8D, 0xFE], .bsr 0xFE), ([0x17, 0xFE, 0x80], .lbsr 0xFE80), ([0x39], .rts), ([0x12], .nop)] = true := by
  decide +kernel

/-- Words of 45_system.md, R330 to R335, written from the rows of the opcode table. -/
theorem test_decode_system : decodes [
    ([0x3F], .swi), ([0x10, 0x3F], .swi2), ([0x11, 0x3F], .swi3), ([0x3B], .rti), ([0x3C, 0x5A], .cwai 0x5A),
    ([0x13], .sync)] = true := by
  decide +kernel

/-! ## Helpers -/

/-- A machine that fetches at 0x1000 with these bytes there, everything else 0. -/
def running (code : List Byte) : State :=
  placeBytes code 0x1000 { (State.coldStart 0x1000) with ctl := { (State.coldStart 0).ctl with runState := .exec } }

/-- The cells' bytes put in place, with no callback. -/
def withCells (cells : List (Word × Byte)) (s : State) : State := cells.foldl (fun t p => t.setCell p.1 p.2) s

/-- The state after a step. -/
def after (s : State) : State :=
  match step s with
  | .next t => t
  | .fault _ => s
  | .refused _ => s

/-- One step on a small state: the bytes of the instruction, the cells, the registers, what holds afterwards. -/
structure Vec where
  code : List Byte
  cells : List (Word × Byte)
  start : State → State
  holds : State → Bool

/-- Every step leaves what its vector says. -/
def passes (vs : List Vec) : Bool := vs.all fun v => v.holds (after (v.start (withCells v.cells (running v.code))))

/-- The flags but H, which the rule leaves free. -/
def flags (t : State) (b : Byte) : Bool := { t.cpu.cc with h := false } == unpackCC b

/-! ## One step: the vectors of sections 3.1 to 3.5 -/

/-- Vectors AM1..AM12. -/
theorem test_addressing_direct_offset_auto : passes [
    ⟨[0x96, 0x34], [(0x1234, 0x80)], fun s => s.setDP 0x12,
      fun t => t.cpu.a == 0x80 && t.cpu.pc == 0x1002 && packCC t.cpu.cc == 0x08 && t.dbg.lastCycles ==
      4⟩,
    ⟨[0xB6, 0x12, 0x34], [(0x1234, 0x00)], id,
      fun t => t.cpu.a == 0x00 && t.cpu.pc == 0x1003 && packCC t.cpu.cc == 0x04 && t.dbg.lastCycles ==
      5⟩,
    ⟨[0xA6, 0x1F], [(0x1FFF, 0x11)], fun s => s.setX 0x2000,
      fun t => t.cpu.a == 0x11 && t.cpu.x == 0x2000 && t.dbg.lastCycles == 5⟩,
    ⟨[0xA6, 0x30], [(0x2000, 0x22)], fun s => s.setY 0x2010, fun t => t.cpu.a == 0x22 && t.dbg.lastCycles == 5⟩,
    ⟨[0xA6, 0x81], [(0xBFFF, 0x33)], fun s => s.setX 0xFFFF,
      fun t => t.cpu.a == 0x33 && t.cpu.x == 0x0001 && t.dbg.lastCycles == 7⟩,
    ⟨[0xA6, 0x82], [(0xBFFF, 0x44)], fun s => s.setX 0x0000,
      fun t => t.cpu.a == 0x44 && t.cpu.x == 0xFFFF && t.dbg.lastCycles == 6⟩,
    ⟨[0xEC, 0xE3], [(0x2000, 0x12), (0x2001, 0x34)], fun s => s.setS 0x2002,
      fun t => t.cpu.a == 0x12 && t.cpu.b == 0x34 && t.cpu.s == 0x2000 && t.dbg.lastCycles == 8⟩,
    ⟨[0xA6, 0x85], [(0x1FFF, 0x55)], fun s => (s.setB 0xFF).setX 0x2000,
      fun t => t.cpu.a == 0x55 && t.dbg.lastCycles == 5⟩,
    ⟨[0xA6, 0xC6], [(0x207F, 0x66)], fun s => (s.setA 0x7F).setU 0x2000,
      fun t => t.cpu.a == 0x66 && t.dbg.lastCycles == 5⟩,
    ⟨[0xA6, 0x88, 0x80], [(0x2000, 0x77)], fun s => s.setX 0x2080,
      fun t => t.cpu.a == 0x77 && t.cpu.pc == 0x1003 && t.dbg.lastCycles == 5⟩,
    ⟨[0xA6, 0x89, 0x80, 0x00], [], fun s => s.setX 0x9000,
      fun t => t.cpu.a == 0xA6 && t.cpu.pc == 0x1004 && t.dbg.lastCycles == 8⟩,
    ⟨[0xA6, 0x8B], [(0x1FFE, 0x88)], fun s => ((s.setA 0xFF).setB 0xFE).setX 0x2000,
      fun t => t.cpu.a == 0x88 && t.dbg.lastCycles == 8⟩] = true := by
  decide +kernel

/-- Vectors AM13..AM20; AM19 and AM20 are illegal postbytes. -/
theorem test_addressing_pc_indirect : passes [
    ⟨[0xA6, 0x8C, 0x10], [(0x1013, 0x99)], id, fun t => t.cpu.a == 0x99 && t.dbg.lastCycles == 5⟩,
    ⟨[0xA6, 0x8C, 0xFD], [], id, fun t => t.cpu.a == 0xA6 && t.dbg.lastCycles == 5⟩,
    ⟨[0xA6, 0x8D, 0x10, 0x00], [(0x2004, 0xAB)], id, fun t => t.cpu.a == 0xAB && t.dbg.lastCycles == 9⟩,
    ⟨[0xA6, 0x94], [(0x2000, 0x30), (0x2001, 0x00), (0x3000, 0xCD)], fun s => s.setX 0x2000,
      fun t => t.cpu.a == 0xCD && t.dbg.lastCycles == 7⟩,
    ⟨[0xA6, 0x91], [(0x2000, 0x30), (0x2001, 0x00), (0x3000, 0xCD)], fun s => s.setX 0x2000,
      fun t => t.cpu.a == 0xCD && t.cpu.x == 0x2002 && t.dbg.lastCycles == 10⟩,
    ⟨[0xA6, 0xF8, 0x04], [(0x2004, 0x30), (0x2005, 0x01), (0x3001, 0xEF)], fun s => s.setS 0x2000,
      fun t => t.cpu.a == 0xEF && t.dbg.lastCycles == 8⟩,
    ⟨[0xA6, 0x90], [], fun s => s.setX 0x2000,
      fun t => t.ctl.runState == .exception && t.dbg.excCause == some .unresolvableMode && t.cpu.a ==
      0x00 && t.cpu.x == 0x2000⟩,
    ⟨[0xA6, 0x87], [], id,
      fun t => t.ctl.runState == .exception && t.dbg.excCause == some .unresolvableMode && t.cpu.a ==
      0x00⟩] = true := by
  decide +kernel

/-- Vectors AM21..AM25. -/
theorem test_load_effective_address : passes [
    ⟨[0x30, 0x81], [], fun s => s.setX 0x2000, fun t => t.cpu.x == 0x2000 && t.dbg.lastCycles == 7⟩,
    ⟨[0x30, 0x1F], [], fun s => s.setX 0x0001,
      fun t => t.cpu.x == 0x0000 && packCC t.cpu.cc == 0x04 && t.dbg.lastCycles == 5⟩,
    ⟨[0x31, 0x21], [], fun s => s.setY 0xFFFF,
      fun t => t.cpu.y == 0x0000 && packCC t.cpu.cc == 0x04 && t.dbg.lastCycles == 5⟩,
    ⟨[0x32, 0x7E], [], fun s => s.setS 0x8000,
      fun t => t.cpu.s == 0x7FFE && packCC t.cpu.cc == 0x00 && t.ctl.nmiArmed && t.dbg.lastCycles == 5⟩,
    ⟨[0x33, 0xCB], [], fun s => ((s.setA 0x01).setB 0x02).setU 0x1000,
      fun t => t.cpu.u == 0x1102 && t.dbg.lastCycles == 8⟩] = true := by
  decide +kernel

/-- Vectors LS1..LS9. -/
theorem test_loads : passes [
    ⟨[0x86, 0x00], [], fun s => (s.setA 0x55).setCC (unpackCC 0xFB),
      fun t => t.cpu.a == 0x00 && packCC t.cpu.cc == 0xF5 && t.dbg.lastCycles == 2⟩,
    ⟨[0xC6, 0x80], [], fun s => s.setCC (unpackCC 0x02),
      fun t => t.cpu.b == 0x80 && packCC t.cpu.cc == 0x08 && t.dbg.lastCycles == 2⟩,
    ⟨[0xCC, 0x80, 0x00], [], id,
      fun t => t.cpu.a == 0x80 && t.cpu.b == 0x00 && packCC t.cpu.cc == 0x08 && t.dbg.lastCycles == 3⟩,
    ⟨[0x8E, 0x00, 0x00], [], fun s => (s.setX 0x1234).setCC (unpackCC 0x0B),
      fun t => t.cpu.x == 0x0000 && packCC t.cpu.cc == 0x05 && t.dbg.lastCycles == 3⟩,
    ⟨[0x10, 0x8E, 0x12, 0x34], [], id,
      fun t => t.cpu.y == 0x1234 && t.cpu.pc == 0x1004 && packCC t.cpu.cc == 0x00 && t.dbg.lastCycles ==
      4⟩,
    ⟨[0x10, 0xCE, 0x7F, 0x00], [], id,
      fun t => t.cpu.s == 0x7F00 && t.cpu.pc == 0x1004 && t.ctl.nmiArmed && t.dbg.lastCycles == 4⟩,
    ⟨[0xFE, 0x20, 0x00], [(0x2000, 0xFF), (0x2001, 0xFE)], id,
      fun t => t.cpu.u == 0xFFFE && packCC t.cpu.cc == 0x08 && t.dbg.lastCycles == 6⟩,
    ⟨[0xAE, 0x80], [(0x2000, 0x30), (0x2001, 0x00)], fun s => s.setX 0x2000,
      fun t => t.cpu.x == 0x3000 && t.dbg.lastCycles == 7⟩,
    ⟨[0xEE, 0xC1], [(0x2000, 0x30), (0x2001, 0x00)], fun s => s.setU 0x2000,
      fun t => t.cpu.u == 0x3000 && t.dbg.lastCycles == 8⟩] = true := by
  decide +kernel

/-- Vectors LS10..LS17. -/
theorem test_stores : passes [
    ⟨[0xB7, 0x20, 0x00], [], fun s => (s.setA 0x80).setCC (unpackCC 0x03),
      fun t => packCC t.cpu.cc == 0x09 && t.cell 0x2000 == 0x80 && t.dbg.lastCycles == 5⟩,
    ⟨[0xD7, 0xFF], [], fun s => ((s.setB 0x00).setDP 0x20).setCC (unpackCC 0x0B),
      fun t => packCC t.cpu.cc == 0x05 && t.cell 0x20FF == 0x00 && t.dbg.lastCycles == 4⟩,
    ⟨[0xED, 0x81], [(0x2000, 0xFF), (0x2001, 0xFF)], fun s => ((s.setA 0x00).setB 0x00).setX 0x2000,
      fun t => t.cpu.x == 0x2002 && packCC t.cpu.cc == 0x04 && t.cell 0x2000 == 0x00 && t.cell 0x2001 ==
      0x00 && t.dbg.lastCycles == 8⟩,
    ⟨[0xAF, 0x83], [], fun s => s.setX 0x2002,
      fun t => t.cpu.x == 0x2000 && t.cell 0x2000 == 0x20 && t.cell 0x2001 == 0x00 && t.dbg.lastCycles
      == 8⟩,
    ⟨[0x9F, 0x10], [], fun s => ((s.setDP 0x20).setX 0x8000).setCC (unpackCC 0x01),
      fun t => packCC t.cpu.cc == 0x09 && t.cell 0x2010 == 0x80 && t.cell 0x2011 == 0x00 &&
      t.dbg.lastCycles == 5⟩,
    ⟨[0x10, 0xAF, 0xA4], [], fun s => s.setY 0x2000,
      fun t => t.cpu.pc == 0x1003 && packCC t.cpu.cc == 0x00 && t.cell 0x2000 == 0x20 && t.cell 0x2001
      == 0x00 && t.dbg.lastCycles == 6⟩,
    ⟨[0x10, 0xDF, 0x10], [], fun s => (s.setDP 0x20).setS 0x7FFE,
      fun t => packCC t.cpu.cc == 0x00 && t.cell 0x2010 == 0x7F && t.cell 0x2011 == 0xFE &&
      t.dbg.lastCycles == 6⟩,
    ⟨[0xE7, 0xE2], [], fun s => (s.setB 0x7F).setS 0x8000,
      fun t => t.cpu.s == 0x7FFF && t.cell 0x7FFF == 0x7F && t.dbg.lastCycles == 6⟩] = true := by
  decide +kernel

/-- Vectors LS18..LS31. -/
theorem test_transfers_and_exchanges : passes [
    ⟨[0x1F, 0x01], [], fun s => ((s.setA 0x12).setB 0x34).setCC (unpackCC 0x0F),
      fun t => t.cpu.x == 0x1234 && packCC t.cpu.cc == 0x0F && t.dbg.lastCycles == 6⟩,
    ⟨[0x1F, 0x8B], [], fun s => s.setA 0x20, fun t => t.cpu.dp == 0x20 && t.dbg.lastCycles == 6⟩,
    ⟨[0x1F, 0x15], [], fun s => s.setX 0x4000, fun t => t.cpu.pc == 0x4000 && t.dbg.lastCycles == 6⟩,
    ⟨[0x1F, 0x51], [], id, fun t => t.cpu.x == 0x1002 && t.dbg.lastCycles == 6⟩,
    ⟨[0x1F, 0x50], [], id, fun t => t.cpu.a == 0x10 && t.cpu.b == 0x02 && t.dbg.lastCycles == 6⟩,
    ⟨[0x1F, 0xA8], [], fun s => s.setCC (unpackCC 0xA5), fun t => t.cpu.a == 0xA5 && t.dbg.lastCycles == 6⟩,
    ⟨[0x1F, 0x8A], [], fun s => s.setA 0xFF, fun t => packCC t.cpu.cc == 0xFF && t.dbg.lastCycles == 6⟩,
    ⟨[0x1E, 0x89], [], fun s => (s.setA 0x12).setB 0x34,
      fun t => t.cpu.a == 0x34 && t.cpu.b == 0x12 && t.dbg.lastCycles == 8⟩,
    ⟨[0x1E, 0x8A], [], fun s => (s.setA 0x50).setCC (unpackCC 0x0F),
      fun t => t.cpu.a == 0x0F && packCC t.cpu.cc == 0x50 && t.dbg.lastCycles == 8⟩,
    ⟨[0x1E, 0x14], [], fun s => (s.setX 0x7F00).setS 0x0000,
      fun t => t.cpu.x == 0x0000 && t.cpu.s == 0x7F00 && t.ctl.nmiArmed && t.dbg.lastCycles == 8⟩,
    ⟨[0x1E, 0x05], [], fun s => (s.setA 0x20).setB 0x00,
      fun t => t.cpu.a == 0x10 && t.cpu.b == 0x02 && t.cpu.pc == 0x2000 && t.dbg.lastCycles == 8⟩,
    ⟨[0x1E, 0x11], [], fun s => s.setX 0x1234, fun t => t.cpu.x == 0x1234 && t.dbg.lastCycles == 8⟩,
    ⟨[0x1F, 0x61], [], id,
      fun t => t.ctl.runState == .exception && t.dbg.excCause == some .unresolvableMode && t.cpu.a ==
      0x00⟩,
    ⟨[0x1F, 0x81], [], fun s => s.setA 0x12,
      fun t => t.ctl.runState == .exec && t.cpu.a == 0x12 && t.cpu.pc == 0x1002⟩] = true := by
  decide +kernel

/-- Vectors LS32..LS37. -/
theorem test_pushes : passes [
    ⟨[0x34, 0xFF], [], fun s => (((((((s.setA 0xAA).setB 0xBB).setDP 0x77).setX 0x1122).setY 0x3344).setU
      0x5566).setS 0x8000).setCC (unpackCC 0x85),
      fun t => t.cpu.s == 0x7FF4 && t.cell 0x7FF4 == 0x85 && t.cell 0x7FF5 == 0xAA && t.cell 0x7FF6 ==
      0xBB && t.cell 0x7FF7 == 0x77 && t.cell 0x7FF8 == 0x11 && t.cell 0x7FF9 == 0x22 && t.cell 0x7FFA
      == 0x33 && t.cell 0x7FFB == 0x44 && t.cell 0x7FFC == 0x55 && t.cell 0x7FFD == 0x66 && t.cell
      0x7FFE == 0x10 && t.cell 0x7FFF == 0x02 && t.dbg.lastCycles == 17⟩,
    ⟨[0x34, 0x12], [], fun s => (((((((s.setA 0xAA).setB 0xBB).setDP 0x77).setX 0x1122).setY 0x3344).setU
      0x5566).setS 0x8000).setCC (unpackCC 0x85),
      fun t => t.cpu.s == 0x7FFD && t.cell 0x7FFD == 0xAA && t.cell 0x7FFE == 0x11 && t.cell 0x7FFF ==
      0x22 && t.dbg.lastCycles == 8⟩,
    ⟨[0x34, 0x00], [], fun s => s.setS 0x8000, fun t => t.cpu.s == 0x8000 && t.dbg.lastCycles == 5⟩,
    ⟨[0x34, 0x01], [], fun s => (s.setS 0x0000).setCC (unpackCC 0xAA),
      fun t => t.cpu.s == 0xFFFF && t.cell 0xFFFF == 0xAA && t.dbg.lastCycles == 6⟩,
    ⟨[0x34, 0x40], [], fun s => (s.setU 0xABCD).setS 0x3000,
      fun t => t.cpu.s == 0x2FFE && t.cell 0x2FFE == 0xAB && t.cell 0x2FFF == 0xCD && t.dbg.lastCycles
      == 7⟩,
    ⟨[0x36, 0xC0], [], fun s => (s.setU 0x3000).setS 0x7F00,
      fun t => t.cpu.u == 0x2FFC && t.cell 0x2FFC == 0x7F && t.cell 0x2FFD == 0x00 && t.cell 0x2FFE ==
      0x10 && t.cell 0x2FFF == 0x02 && t.dbg.lastCycles == 9⟩] = true := by
  decide +kernel

/-- Vectors LS38..LS44; the byte LS42 reads at 0xFFFF lies in ROM, 0x4000 lower. -/
theorem test_pulls : passes [
    ⟨[0x35, 0x86], [(0x7FFC, 0x01), (0x7FFD, 0x02), (0x7FFE, 0x30), (0x7FFF, 0x00)], fun s => s.setS 0x7FFC,
      fun t => t.cpu.a == 0x01 && t.cpu.b == 0x02 && t.cpu.s == 0x8000 && t.cpu.pc == 0x3000 &&
      t.dbg.lastCycles == 9⟩,
    ⟨[0x35, 0x01], [(0x7FFF, 0xFF)], fun s => s.setS 0x7FFF,
      fun t => t.cpu.s == 0x8000 && packCC t.cpu.cc == 0xFF && t.dbg.lastCycles == 6⟩,
    ⟨[0x35, 0x10], [(0x2000, 0xAA), (0x2001, 0xBB)], fun s => s.setS 0x2000,
      fun t => t.cpu.x == 0xAABB && t.cpu.s == 0x2002 && t.dbg.lastCycles == 7⟩,
    ⟨[0x35, 0xFF], [(0x7FF4, 0x85), (0x7FF5, 0xAA), (0x7FF6, 0xBB), (0x7FF7, 0x77), (0x7FF8, 0x11), (0x7FF9, 0x22),
      (0x7FFA, 0x33), (0x7FFB, 0x44), (0x7FFC, 0x55), (0x7FFD, 0x66), (0x7FFE, 0x30), (0x7FFF, 0x00)], fun s => s.setS
      0x7FF4,
      fun t => t.cpu.a == 0xAA && t.cpu.b == 0xBB && t.cpu.dp == 0x77 && t.cpu.x == 0x1122 && t.cpu.y ==
      0x3344 && t.cpu.u == 0x5566 && t.cpu.s == 0x8000 && t.cpu.pc == 0x3000 && packCC t.cpu.cc == 0x85
      && t.dbg.lastCycles == 17⟩,
    ⟨[0x35, 0x80], [(0xBFFF, 0x12), (0x0000, 0x34)], fun s => s.setS 0xFFFF,
      fun t => t.cpu.s == 0x0001 && t.cpu.pc == 0x1234 && t.dbg.lastCycles == 7⟩,
    ⟨[0x37, 0x40], [(0x3000, 0x7F), (0x3001, 0x00)], fun s => s.setU 0x3000,
      fun t => t.cpu.u == 0x3002 && t.cpu.s == 0x7F00 && t.ctl.nmiArmed && t.dbg.lastCycles == 7⟩,
    ⟨[0x37, 0x30], [(0x3000, 0x11), (0x3001, 0x22), (0x3002, 0x33), (0x3003, 0x44)], fun s => s.setU 0x3000,
      fun t => t.cpu.x == 0x1122 && t.cpu.y == 0x3344 && t.cpu.u == 0x3004 && t.dbg.lastCycles == 9⟩] = true := by
  decide +kernel

/-- Vectors AR1..AR7. -/
theorem test_additions : passes [
    ⟨[0x8B, 0x01], [], fun s => s.setA 0xFF, fun t => t.cpu.a == 0x00 && packCC t.cpu.cc == 0x25⟩,
    ⟨[0x8B, 0x01], [], fun s => s.setA 0x7F, fun t => t.cpu.a == 0x80 && packCC t.cpu.cc == 0x2A⟩,
    ⟨[0x8B, 0x80], [], fun s => s.setA 0x80, fun t => t.cpu.a == 0x00 && packCC t.cpu.cc == 0x07⟩,
    ⟨[0xCB, 0x0F], [], fun s => s.setB 0x01, fun t => t.cpu.b == 0x10 && packCC t.cpu.cc == 0x20⟩,
    ⟨[0x89, 0x00], [], fun s => (s.setA 0xFF).setCC (unpackCC 0x01),
      fun t => t.cpu.a == 0x00 && packCC t.cpu.cc == 0x25⟩,
    ⟨[0xC3, 0x00, 0x01], [], fun s => (s.setA 0xFF).setB 0xFF,
      fun t => t.cpu.a == 0x00 && t.cpu.b == 0x00 && packCC t.cpu.cc == 0x05⟩,
    ⟨[0xC3, 0x00, 0x01], [], fun s => ((s.setA 0x7F).setB 0xFF).setCC (unpackCC 0x20),
      fun t => t.cpu.a == 0x80 && t.cpu.b == 0x00 && packCC t.cpu.cc == 0x2A⟩] = true := by
  decide +kernel

/-- Vectors AR8..AR21. -/
theorem test_subtractions_and_compares : passes [
    ⟨[0x80, 0x01], [], fun s => s.setA 0x00, fun t => t.cpu.a == 0xFF && flags t 0x09⟩,
    ⟨[0x80, 0x01], [], fun s => s.setA 0x80, fun t => t.cpu.a == 0x7F && flags t 0x02⟩,
    ⟨[0x80, 0x05], [], fun s => s.setA 0x05, fun t => t.cpu.a == 0x00 && flags t 0x04⟩,
    ⟨[0x82, 0x00], [], fun s => (s.setA 0x00).setCC (unpackCC 0x01), fun t => t.cpu.a == 0xFF && flags t 0x09⟩,
    ⟨[0xC2, 0x7F], [], fun s => (s.setB 0x80).setCC (unpackCC 0x01), fun t => t.cpu.b == 0x00 && flags t 0x06⟩,
    ⟨[0x83, 0x00, 0x01], [], fun s => (s.setA 0x00).setB 0x00,
      fun t => t.cpu.a == 0xFF && t.cpu.b == 0xFF && packCC t.cpu.cc == 0x09⟩,
    ⟨[0x83, 0x00, 0x01], [], fun s => (s.setA 0x80).setB 0x00,
      fun t => t.cpu.a == 0x7F && t.cpu.b == 0xFF && packCC t.cpu.cc == 0x02⟩,
    ⟨[0x81, 0x80], [], fun s => s.setA 0x7F, fun t => t.cpu.a == 0x7F && flags t 0x0B⟩,
    ⟨[0xC1, 0x10], [], fun s => s.setB 0x10, fun t => t.cpu.b == 0x10 && flags t 0x04⟩,
    ⟨[0x8C, 0x20, 0x00], [], fun s => s.setX 0x1FFF, fun t => t.cpu.x == 0x1FFF && packCC t.cpu.cc == 0x09⟩,
    ⟨[0x10, 0x8C, 0x80, 0x00], [], fun s => s.setY 0x7FFF, fun t => t.cpu.pc == 0x1004 && packCC t.cpu.cc == 0x0B⟩,
    ⟨[0x10, 0x83, 0x12, 0x34], [], fun s => (s.setA 0x12).setB 0x34, fun t => packCC t.cpu.cc == 0x04⟩,
    ⟨[0x11, 0x83, 0x00, 0x00], [], fun s => s.setU 0xFFFF, fun t => packCC t.cpu.cc == 0x08⟩,
    ⟨[0x11, 0x8C, 0x00, 0x01], [], fun s => s.setS 0x0000, fun t => packCC t.cpu.cc == 0x09⟩] = true := by
  decide +kernel

/-- Vectors AR22..AR31. -/
theorem test_neg_inc_dec : passes [
    ⟨[0x40], [], fun s => s.setA 0x00, fun t => t.cpu.a == 0x00 && flags t 0x04⟩,
    ⟨[0x40], [], fun s => s.setA 0x80, fun t => t.cpu.a == 0x80 && flags t 0x0B⟩,
    ⟨[0x50], [], fun s => s.setB 0x01, fun t => t.cpu.b == 0xFF && flags t 0x09⟩,
    ⟨[0x70, 0x20, 0x00], [(0x2000, 0x7F)], id, fun t => flags t 0x09 && t.cell 0x2000 == 0x81⟩,
    ⟨[0x4C], [], fun s => (s.setA 0x7F).setCC (unpackCC 0x01), fun t => t.cpu.a == 0x80 && packCC t.cpu.cc == 0x0B⟩,
    ⟨[0x5C], [], fun s => s.setB 0xFF, fun t => t.cpu.b == 0x00 && packCC t.cpu.cc == 0x04⟩,
    ⟨[0x0C, 0x00], [(0x2000, 0xFE)], fun s => s.setDP 0x20,
      fun t => packCC t.cpu.cc == 0x08 && t.cell 0x2000 == 0xFF⟩,
    ⟨[0x4A], [], fun s => s.setA 0x80, fun t => t.cpu.a == 0x7F && packCC t.cpu.cc == 0x02⟩,
    ⟨[0x5A], [], fun s => (s.setB 0x00).setCC (unpackCC 0x01), fun t => t.cpu.b == 0xFF && packCC t.cpu.cc == 0x09⟩,
    ⟨[0x6A, 0x84], [(0x2000, 0x01)], fun s => s.setX 0x2000,
      fun t => packCC t.cpu.cc == 0x04 && t.cell 0x2000 == 0x00⟩] = true := by
  decide +kernel

/-- Vectors AR32..AR39. -/
theorem test_tst_clr_mul : passes [
    ⟨[0x4D], [], fun s => (s.setA 0x80).setCC (unpackCC 0x03), fun t => packCC t.cpu.cc == 0x09⟩,
    ⟨[0x7D, 0x20, 0x00], [(0x2000, 0x00)], fun s => s.setCC (unpackCC 0x0A), fun t => packCC t.cpu.cc == 0x04⟩,
    ⟨[0x4F], [], fun s => (s.setA 0x55).setCC (unpackCC 0xFF), fun t => t.cpu.a == 0x00 && packCC t.cpu.cc == 0xF4⟩,
    ⟨[0x7F, 0x20, 0x00], [(0x2000, 0x99)], fun s => s.setCC (unpackCC 0x0B),
      fun t => packCC t.cpu.cc == 0x04 && t.cell 0x2000 == 0x00⟩,
    ⟨[0x3D], [], fun s => (s.setA 0xFF).setB 0xFF,
      fun t => t.cpu.a == 0xFE && t.cpu.b == 0x01 && packCC t.cpu.cc == 0x00⟩,
    ⟨[0x3D], [], fun s => ((s.setA 0x00).setB 0x55).setCC (unpackCC 0x0B),
      fun t => t.cpu.a == 0x00 && t.cpu.b == 0x00 && packCC t.cpu.cc == 0x0E⟩,
    ⟨[0x3D], [], fun s => (s.setA 0x10).setB 0x08,
      fun t => t.cpu.a == 0x00 && t.cpu.b == 0x80 && packCC t.cpu.cc == 0x01⟩,
    ⟨[0x3D], [], fun s => (s.setA 0x0C).setB 0x0C,
      fun t => t.cpu.a == 0x00 && t.cpu.b == 0x90 && packCC t.cpu.cc == 0x01⟩] = true := by
  decide +kernel

/-- Vectors AR40..AR50. -/
theorem test_daa_sex_abx : passes [
    ⟨[0x19], [], fun s => s.setA 0x0A, fun t => t.cpu.a == 0x10 && packCC t.cpu.cc == 0x00⟩,
    ⟨[0x19], [], fun s => s.setA 0x9A, fun t => t.cpu.a == 0x00 && packCC t.cpu.cc == 0x05⟩,
    ⟨[0x19], [], fun s => s.setA 0xA0, fun t => t.cpu.a == 0x00 && packCC t.cpu.cc == 0x05⟩,
    ⟨[0x19], [], fun s => (s.setA 0x12).setCC (unpackCC 0x20), fun t => t.cpu.a == 0x18 && packCC t.cpu.cc == 0x20⟩,
    ⟨[0x19], [], fun s => (s.setA 0x10).setCC (unpackCC 0x01), fun t => t.cpu.a == 0x70 && packCC t.cpu.cc == 0x01⟩,
    ⟨[0x19], [], fun s => (s.setA 0x99).setCC (unpackCC 0x02), fun t => t.cpu.a == 0x99 && packCC t.cpu.cc == 0x08⟩,
    ⟨[0x19], [], fun s => s.setA 0x00, fun t => t.cpu.a == 0x00 && packCC t.cpu.cc == 0x04⟩,
    ⟨[0x1D], [], fun s => ((s.setA 0x12).setB 0x80).setCC (unpackCC 0x03),
      fun t => t.cpu.a == 0xFF && t.cpu.b == 0x80 && packCC t.cpu.cc == 0x0B⟩,
    ⟨[0x1D], [], fun s => (s.setA 0xFF).setB 0x7F, fun t => t.cpu.a == 0x00 && packCC t.cpu.cc == 0x00⟩,
    ⟨[0x1D], [], fun s => (s.setA 0xFF).setB 0x00, fun t => t.cpu.a == 0x00 && packCC t.cpu.cc == 0x04⟩,
    ⟨[0x3A], [], fun s => ((s.setB 0x80).setX 0xFF80).setCC (unpackCC 0x0F),
      fun t => t.cpu.x == 0x0000 && packCC t.cpu.cc == 0x0F⟩] = true := by
  decide +kernel

/-- Vectors LG1..LG15. -/
theorem test_logic : passes [
    ⟨[0x84, 0x0F], [], fun s => (s.setA 0xF0).setCC (unpackCC 0x03),
      fun t => t.cpu.a == 0x00 && packCC t.cpu.cc == 0x05⟩,
    ⟨[0xC4, 0x80], [], fun s => (s.setB 0xFF).setCC (unpackCC 0x02),
      fun t => t.cpu.b == 0x80 && packCC t.cpu.cc == 0x08⟩,
    ⟨[0x8A, 0x80], [], fun s => (s.setA 0x01).setCC (unpackCC 0x03),
      fun t => t.cpu.a == 0x81 && packCC t.cpu.cc == 0x09⟩,
    ⟨[0xCA, 0x00], [], fun s => (s.setB 0x00).setCC (unpackCC 0x0A),
      fun t => t.cpu.b == 0x00 && packCC t.cpu.cc == 0x04⟩,
    ⟨[0x88, 0xFF], [], fun s => (s.setA 0xFF).setCC (unpackCC 0x01),
      fun t => t.cpu.a == 0x00 && packCC t.cpu.cc == 0x05⟩,
    ⟨[0xC8, 0xFF], [], fun s => s.setB 0x7F, fun t => t.cpu.b == 0x80 && packCC t.cpu.cc == 0x08⟩,
    ⟨[0x85, 0x80], [], fun s => (s.setA 0x80).setCC (unpackCC 0x02),
      fun t => t.cpu.a == 0x80 && packCC t.cpu.cc == 0x08⟩,
    ⟨[0xC5, 0x01], [], fun s => s.setB 0xFE, fun t => t.cpu.b == 0xFE && packCC t.cpu.cc == 0x04⟩,
    ⟨[0x43], [], fun s => (s.setA 0x00).setCC (unpackCC 0x02), fun t => t.cpu.a == 0xFF && packCC t.cpu.cc == 0x09⟩,
    ⟨[0x53], [], fun s => s.setB 0xFF, fun t => t.cpu.b == 0x00 && packCC t.cpu.cc == 0x05⟩,
    ⟨[0x73, 0x20, 0x00], [(0x2000, 0x55)], id, fun t => packCC t.cpu.cc == 0x09 && t.cell 0x2000 == 0xAA⟩,
    ⟨[0x1C, 0xAF], [], fun s => s.setCC (unpackCC 0xFF), fun t => packCC t.cpu.cc == 0xAF⟩,
    ⟨[0x1C, 0x00], [], fun s => s.setCC (unpackCC 0xFF), fun t => packCC t.cpu.cc == 0x00⟩,
    ⟨[0x1A, 0x50], [], id, fun t => packCC t.cpu.cc == 0x50⟩,
    ⟨[0x1A, 0x01], [], fun s => s.setCC (unpackCC 0x80), fun t => packCC t.cpu.cc == 0x81⟩] = true := by
  decide +kernel

/-- Vectors LG16..LG26. -/
theorem test_shifts_left_and_right : passes [
    ⟨[0x48], [], fun s => s.setA 0x80, fun t => t.cpu.a == 0x00 && flags t 0x07⟩,
    ⟨[0x48], [], fun s => s.setA 0x40, fun t => t.cpu.a == 0x80 && flags t 0x0A⟩,
    ⟨[0x58], [], fun s => s.setB 0xC0, fun t => t.cpu.b == 0x80 && flags t 0x09⟩,
    ⟨[0x48], [], fun s => (s.setA 0x01).setCC (unpackCC 0x0F), fun t => t.cpu.a == 0x02 && flags t 0x00⟩,
    ⟨[0x78, 0x20, 0x00], [(0x2000, 0xFF)], id, fun t => flags t 0x09 && t.cell 0x2000 == 0xFE⟩,
    ⟨[0x47], [], fun s => (s.setA 0x81).setCC (unpackCC 0x02), fun t => t.cpu.a == 0xC0 && flags t 0x0B⟩,
    ⟨[0x57], [], fun s => s.setB 0x01, fun t => t.cpu.b == 0x00 && flags t 0x05⟩,
    ⟨[0x47], [], fun s => s.setA 0xFF, fun t => t.cpu.a == 0xFF && flags t 0x09⟩,
    ⟨[0x44], [], fun s => (s.setA 0x01).setCC (unpackCC 0x0A), fun t => t.cpu.a == 0x00 && packCC t.cpu.cc == 0x07⟩,
    ⟨[0x54], [], fun s => (s.setB 0x80).setCC (unpackCC 0x08), fun t => t.cpu.b == 0x40 && packCC t.cpu.cc == 0x00⟩,
    ⟨[0x64, 0x84], [(0x2000, 0xFF)], fun s => s.setX 0x2000,
      fun t => packCC t.cpu.cc == 0x01 && t.cell 0x2000 == 0x7F⟩] = true := by
  decide +kernel

/-- Vectors LG27..LG34. -/
theorem test_rotates : passes [
    ⟨[0x49], [], fun s => s.setA 0x80, fun t => t.cpu.a == 0x00 && packCC t.cpu.cc == 0x07⟩,
    ⟨[0x49], [], fun s => (s.setA 0x80).setCC (unpackCC 0x01), fun t => t.cpu.a == 0x01 && packCC t.cpu.cc == 0x03⟩,
    ⟨[0x59], [], fun s => (s.setB 0x40).setCC (unpackCC 0x01), fun t => t.cpu.b == 0x81 && packCC t.cpu.cc == 0x0A⟩,
    ⟨[0x49], [], fun s => s.setA 0xC0, fun t => t.cpu.a == 0x80 && packCC t.cpu.cc == 0x09⟩,
    ⟨[0x46], [], fun s => (s.setA 0x01).setCC (unpackCC 0x02), fun t => t.cpu.a == 0x00 && packCC t.cpu.cc == 0x07⟩,
    ⟨[0x46], [], fun s => (s.setA 0x00).setCC (unpackCC 0x01), fun t => t.cpu.a == 0x80 && packCC t.cpu.cc == 0x08⟩,
    ⟨[0x56], [], fun s => (s.setB 0x01).setCC (unpackCC 0x01), fun t => t.cpu.b == 0x80 && packCC t.cpu.cc == 0x09⟩,
    ⟨[0x06, 0x10], [(0x2010, 0x02)], fun s => s.setDP 0x20,
      fun t => packCC t.cpu.cc == 0x00 && t.cell 0x2010 == 0x01⟩] = true := by
  decide +kernel

/-- Vectors BR1..BR11. -/
theorem test_branches : passes [
    ⟨[0x20, 0xFE], [], id, fun t => t.cpu.pc == 0x1000 && t.dbg.lastCycles == 3⟩,
    ⟨[0x20, 0x7F], [], id, fun t => t.cpu.pc == 0x1081 && t.dbg.lastCycles == 3⟩,
    ⟨[0x20, 0x80], [], id, fun t => t.cpu.pc == 0x0F82 && t.dbg.lastCycles == 3⟩,
    ⟨[0x27, 0x05], [], fun s => s.setCC (unpackCC 0x04), fun t => t.cpu.pc == 0x1007 && t.dbg.lastCycles == 3⟩,
    ⟨[0x27, 0x05], [], id, fun t => t.cpu.pc == 0x1002 && t.dbg.lastCycles == 3⟩,
    ⟨[0x16, 0x10, 0x00], [], id, fun t => t.cpu.pc == 0x2003 && t.dbg.lastCycles == 5⟩,
    ⟨[0x16, 0xFF, 0xFD], [], id, fun t => t.cpu.pc == 0x1000 && t.dbg.lastCycles == 5⟩,
    ⟨[0x10, 0x27, 0x01, 0x00], [], fun s => s.setCC (unpackCC 0x04),
      fun t => t.cpu.pc == 0x1104 && t.dbg.lastCycles == 5⟩,
    ⟨[0x10, 0x27, 0x01, 0x00], [], id, fun t => t.cpu.pc == 0x1004 && t.dbg.lastCycles == 5⟩,
    ⟨[0x10, 0x21, 0x01, 0x00], [], id, fun t => t.cpu.pc == 0x1004 && t.dbg.lastCycles == 5⟩,
    ⟨[0x10, 0x2D, 0xF0, 0x00], [], fun s => s.setCC (unpackCC 0x08),
      fun t => t.cpu.pc == 0x0004 && t.dbg.lastCycles == 5⟩] = true := by
  decide +kernel

/-- Vectors BR12..BR23; the byte BR22 reads at 0xFFFF lies in ROM, 0x4000 lower. -/
theorem test_jumps_and_calls : passes [
    ⟨[0x8D, 0x10], [], fun s => s.setS 0x8000,
      fun t => t.cpu.s == 0x7FFE && t.cpu.pc == 0x1012 && t.cell 0x7FFF == 0x02 && t.cell 0x7FFE == 0x10
      && t.dbg.lastCycles == 7⟩,
    ⟨[0x17, 0x02, 0x00], [], fun s => s.setS 0x8000,
      fun t => t.cpu.s == 0x7FFE && t.cpu.pc == 0x1203 && t.cell 0x7FFE == 0x10 && t.cell 0x7FFF == 0x03
      && t.dbg.lastCycles == 9⟩,
    ⟨[0xBD, 0x30, 0x00], [], fun s => s.setS 0x8000,
      fun t => t.cpu.s == 0x7FFE && t.cpu.pc == 0x3000 && t.cell 0x7FFE == 0x10 && t.cell 0x7FFF == 0x03
      && t.dbg.lastCycles == 8⟩,
    ⟨[0x9D, 0x40], [], fun s => (s.setDP 0x30).setS 0x8000,
      fun t => t.cpu.s == 0x7FFE && t.cpu.pc == 0x3040 && t.cell 0x7FFE == 0x10 && t.cell 0x7FFF == 0x02
      && t.dbg.lastCycles == 7⟩,
    ⟨[0xAD, 0x94], [(0x2000, 0x40), (0x2001, 0x00)], fun s => (s.setX 0x2000).setS 0x8000,
      fun t => t.cpu.pc == 0x4000 && t.cell 0x7FFE == 0x10 && t.cell 0x7FFF == 0x02 && t.dbg.lastCycles
      == 10⟩,
    ⟨[0xAD, 0xE4], [], fun s => s.setS 0x8000,
      fun t => t.cpu.s == 0x7FFE && t.cpu.pc == 0x8000 && t.dbg.lastCycles == 7⟩,
    ⟨[0x7E, 0x30, 0x00], [], id, fun t => t.cpu.pc == 0x3000 && t.dbg.lastCycles == 4⟩,
    ⟨[0x6E, 0x84], [], fun s => s.setX 0x4567, fun t => t.cpu.pc == 0x4567 && t.dbg.lastCycles == 3⟩,
    ⟨[0x0E, 0x12], [], fun s => s.setDP 0xAB, fun t => t.cpu.pc == 0xAB12 && t.dbg.lastCycles == 3⟩,
    ⟨[0x39], [(0x7FFE, 0x12), (0x7FFF, 0x34)], fun s => s.setS 0x7FFE,
      fun t => t.cpu.s == 0x8000 && t.cpu.pc == 0x1234 && t.dbg.lastCycles == 5⟩,
    ⟨[0x39], [(0xBFFF, 0x12), (0x0000, 0x34)], fun s => s.setS 0xFFFF,
      fun t => t.cpu.s == 0x0001 && t.cpu.pc == 0x1234 && t.dbg.lastCycles == 5⟩,
    ⟨[0x12], [], fun s => s.setCC (unpackCC 0xFF),
      fun t => t.cpu.pc == 0x1001 && packCC t.cpu.cc == 0xFF && t.dbg.lastCycles == 2⟩] = true := by
  decide +kernel

/-! ## System instructions, interrupts, run states -/

/-- Vectors in ROM, 0x4000 below the window, and a NOP at each handler (section 3.6 of the vectors). -/
def vectors : List (Word × Byte) :=
  [(0xBFFC, 0x60), (0xBFF6, 0x50), (0xBFF8, 0x40), (0xBFFA, 0x40), (0x4000, 0x12), (0x5000, 0x12), (0x6000, 0x12)]

/-- The register set RS with S and CC. -/
def rs (sp : Word) (cc : Byte) (s : State) : State :=
  { s with cpu := ⟨0xAA, 0xBB, 0x77, 0x1122, 0x3344, 0x5566, sp, s.cpu.pc, unpackCC cc⟩ }

/-- S and CC. -/
def sCC (sp : Word) (cc : Byte) (s : State) : State := (s.setS sp).setCC (unpackCC cc)

/-- The bytes from an address on. -/
def bytesFrom (t : State) : Word → List Byte → Bool
  | _, [] => true
  | a, b :: bs => t.cell a == b && bytesFrom t (a + 1) bs

/-- Vectors SY1, SY2, SY10, SY11 (their first steps): SWI, RTI with a short frame, CWAI; and SWI2, SWI3. -/
theorem test_software_interrupts_and_return : passes [
    ⟨[0x3F], vectors, rs 0x8000 0x05, fun t => t.cpu.s == 0x7FF4 && t.cpu.pc == 0x4000 && packCC t.cpu.cc == 0xD5 &&
      bytesFrom t 0x7FF4 [0x85, 0xAA, 0xBB, 0x77, 0x11, 0x22, 0x33, 0x44, 0x55, 0x66, 0x10, 0x01] &&
      t.dbg.lastCycles == 19⟩,
    ⟨[0x10, 0x3F], [(0xBFF4, 0x12), (0xBFF5, 0x34)], sCC 0x8000 0x05,
      fun t => t.cpu.pc == 0x1234 && packCC t.cpu.cc == 0x85 && bytesFrom t 0x7FFE [0x10, 0x02]⟩,
    ⟨[0x11, 0x3F], [(0xBFF2, 0x12), (0xBFF3, 0x34)], sCC 0x8000 0x55,
      fun t => t.cpu.pc == 0x1234 && packCC t.cpu.cc == 0xD5 && t.cell 0x7FF4 == 0xD5⟩,
    ⟨[0x3B], [(0x7FFD, 0x05), (0x7FFE, 0x20), (0x7FFF, 0x00)], fun s => (s.setA 0x99).setS 0x7FFD,
      fun t => packCC t.cpu.cc == 0x05 && t.cpu.pc == 0x2000 && t.cpu.s == 0x8000 && t.cpu.a == 0x99 &&
      t.dbg.lastCycles == 6⟩,
    ⟨[0x3B], [(0x7FF4, 0x85), (0x7FF5, 0xAA), (0x7FF7, 0x77), (0x7FFC, 0x55), (0x7FFE, 0x10), (0x7FFF, 0x01)],
      fun s => s.setS 0x7FF4, fun t => packCC t.cpu.cc == 0x85 && t.cpu.a == 0xAA && t.cpu.dp == 0x77 &&
      t.cpu.u == 0x5500 && t.cpu.pc == 0x1001 && t.cpu.s == 0x8000 && t.dbg.lastCycles == 15⟩,
    ⟨[0x3C, 0xFF, 0x4C], [], sCC 0x8000 0x50, fun t => packCC t.cpu.cc == 0xD0 && t.cpu.s == 0x7FF4 &&
      bytesFrom t 0x7FF4 [0xD0, 0, 0, 0, 0, 0, 0, 0, 0, 0, 0x10, 0x02] && t.ctl.runState == .sync &&
      t.ctl.cwaiStacked && t.dbg.lastCycles == 20 && after (hostIrq true t) == hostIrq true t⟩,
    ⟨[0x3C, 0xEF], vectors, rs 0x8000 0x55, fun t =>
      let u := after (hostIrq true t)
      packCC t.cpu.cc == 0xC5 && t.cell 0x7FF4 == 0xC5 && packCC u.cpu.cc == 0xD5 && u.cpu.pc == 0x4001 &&
      u.cpu.s == 0x7FF4 && !u.ctl.cwaiStacked && u.ctl.runState == .exec⟩] = true := by
  decide +kernel

/-- Vectors SY3, SY5, SY6, SY7, SY4 (its first and third step), SY16. -/
theorem test_interrupt_entries : passes [
    ⟨[0x12], vectors, fun s => hostFirq true (sCC 0x8000 0x0A s), fun t => bytesFrom t 0x7FFD [0x0A, 0x10, 0x00] &&
      t.cpu.s == 0x7FFD && packCC t.cpu.cc == 0x5A && t.cpu.pc == 0x5001⟩,
    ⟨[0x12], vectors, fun s => hostIrq true (hostFirq true (hostNmiTrigger (sCC 0x8000 0x00 s).armNmi)),
      fun t => t.cpu.s == 0x7FF4 && packCC t.cpu.cc == 0xD0 && !t.ctl.nmiLatch && t.cpu.pc == 0x6001 &&
      t.ctl.firqIn && t.ctl.irqIn⟩,
    ⟨[0x12], vectors, fun s => hostIrq true (hostFirq true (sCC 0x8000 0x00 s)),
      fun t => t.cpu.s == 0x7FFD && packCC t.cpu.cc == 0x50 && t.cpu.pc == 0x5001⟩,
    ⟨[0x12], vectors, fun s => hostIrq true (sCC 0x8000 0x00 s), fun t =>
      let u := after (hostFirq true t)
      t.cpu.s == 0x7FF4 && packCC t.cpu.cc == 0x90 && t.cpu.pc == 0x4001 && u.cpu.s == 0x7FF1 &&
      bytesFrom u 0x7FF1 [0x10, 0x40, 0x01] && packCC u.cpu.cc == 0x50 && u.cpu.pc == 0x5001⟩,
    ⟨[0x12], vectors, fun s => hostNmiTrigger (sCC 0x0000 0x50 s), fun t => t.cpu.pc == 0x1001 && t.ctl.nmiLatch⟩,
    ⟨[0x12], vectors, fun s => hostNmiTrigger (sCC 0x7F00 0x50 s).armNmi, fun t => t.cpu.s == 0x7EF4 &&
      bytesFrom t 0x7EF4 [0xD0, 0, 0, 0, 0, 0, 0, 0, 0, 0, 0x10, 0x00] && packCC t.cpu.cc == 0xD0 && !t.ctl.nmiLatch &&
      t.cpu.pc == 0x6001⟩,
    ⟨[0x01], vectors, fun s => hostIrq true (sCC 0x8000 0x00 s),
      fun t => t.ctl.runState == .exec && bytesFrom t 0x7FFE [0x10, 0x00] && t.cpu.pc == 0x4001⟩] = true := by
  decide +kernel

/-- Vectors SY8, SY9, SY12, SY13, SY14: SYNC, reset, halt. -/
theorem test_waits_reset_halt : passes [
    ⟨[0x13, 0x4C], [], fun s => s.setCC (unpackCC 0x50), fun t =>
      let u := after (hostFirq true t)
      let v := after (hostHalt false (after (hostHalt true t)))
      t.ctl.runState == .sync && t.cpu.pc == 0x1001 && t.dbg.lastCycles == 4 && after t == t &&
      u.ctl.runState == .exec && u.cpu.a == 0x01 && u.cpu.pc == 0x1002 && u.cpu.s == 0 && packCC u.cpu.cc == 0x50 &&
      (after (hostHalt true t)).ctl.runState == .halted && v.cpu.a == 0x01 && v.cpu.pc == 0x1002⟩,
    ⟨[0x13], vectors, sCC 0x8000 0x00, fun t =>
      let u := after (hostIrq true t)
      bytesFrom u 0x7FFE [0x10, 0x01] && u.cpu.s == 0x7FF4 && packCC u.cpu.cc == 0x90 && u.cpu.pc == 0x4001⟩,
    ⟨[], [(0xBFFE, 0xB3), (0xBFFF, 0xB4)],
      fun s => hostReset true ((((sCC 0x7F00 0x8A s).setA 0x12).setDP 0x33).setRunState .exception),
      fun t => t.ctl.runState == .reset && t.cpu.dp == 0x00 && packCC t.cpu.cc == 0xDA && t.cpu.pc == 0xB3B4 &&
      t.cpu.a == 0x12 && t.cpu.s == 0x7F00 && (after t).cpu == t.cpu⟩,
    ⟨[0x4C], [], hostHalt true, fun t =>
      let u := after (hostHalt false t)
      t.ctl.runState == .halted && t.cpu.pc == 0x1000 && t.cpu.a == 0x00 && u.cpu.a == 0x01 && u.cpu.pc == 0x1001 &&
      u.ctl.runState == .exec⟩] = true := by
  decide +kernel

/-- Vector SY15: illegal opcodes raise the exception, which stays. -/
theorem test_illegal_opcodes : passes
    ([[0x01], [0x10, 0x10], [0x11, 0x00], [0x87], [0xCD], [0x10, 0x20]].map fun code =>
      ⟨code, [], fun s => s.setA 0x12, fun t => t.ctl.runState == .exception && t.dbg.lastPc == 0x1000 &&
        t.dbg.excCause == some .illegalOpcode && t.cpu.a == 0x12 && (after t).ctl == t.ctl &&
        (after t).draws == t.draws⟩) = true := by
  decide +kernel

/-- The truth table of the sixteen conditions (section 3.5): bit 15 - k of a row is 1 where the branch is taken with
NZVC = k; the long form has the same table. -/
def branchTable : List (Byte × BitVec 16) :=
  [(0x20, 0b1111111111111111), (0x21, 0b0000000000000000), (0x22, 0b1010000010100000), (0x23, 0b0101111101011111),
    (0x24, 0b1010101010101010), (0x25, 0b0101010101010101), (0x26, 0b1111000011110000), (0x27, 0b0000111100001111),
    (0x28, 0b1100110011001100), (0x29, 0b0011001100110011), (0x2A, 0b1111111100000000), (0x2B, 0b0000000011111111),
    (0x2C, 0b1100110000110011), (0x2D, 0b0011001111001100), (0x2E, 0b1100000000110000), (0x2F, 0b0011111111001111)]

/-- The instruction of a word, run alone, with PC after it at 0x1000 and NZVC = k. -/
def branchPc (code : List Byte) (k : Nat) : Word :=
  match decode code with
  | .instr i _ =>
    match exec i ((running []).setCC (unpackCC (BitVec.ofNat 8 k))) with
    | .next t => t.cpu.pc
    | .fault _ => 0
    | .refused _ => 0
  | .rejected _ => 0
  | .truncated => 0

/-- A branch by 0x10 follows the table. -/
theorem test_short_branch_table : (branchTable.all fun p => (List.range 16).all fun k =>
    branchPc [p.1, 0x10] k == (if p.2.getLsbD (15 - k) then 0x1010 else 0x1000)) = true := by
  decide +kernel

/-- The long branches follow the table; the long form of 0x20 is the opcode 0x16. -/
theorem test_long_branch_table : (branchTable.all fun p => (List.range 16).all fun k =>
    branchPc (if p.1 = 0x20 then [0x16, 0x01, 0x00] else [0x10, p.1, 0x01, 0x00]) k ==
      (if p.2.getLsbD (15 - k) then 0x1100 else 0x1000)) = true := by
  decide +kernel

/-! ## Memory -/

/-- Vectors ME1 to ME10: ROM, the vector window, plain RAM above the devices, words across the edges, the SAM. -/
theorem test_memory : passes [
    ⟨[0xB7, 0x80, 0x00], [(0x8000, 0x7E)], fun s => s.setA 0x55,
      fun t => t.cell 0x8000 == 0x7E && packCC t.cpu.cc == 0x00⟩,
    ⟨[0x7C, 0x80, 0x00], [(0x8000, 0x7E)], id, fun t => t.cell 0x8000 == 0x7E && packCC t.cpu.cc == 0x00⟩,
    ⟨[0xBE, 0xFF, 0xFE], [(0xBFFE, 0xB3), (0xBFFF, 0xB4)], id,
      fun t => t.cpu.x == 0xB3B4 && bytesFrom t 0xFFFE [0xB3, 0xB4]⟩,
    ⟨[0xFD, 0xFF, 0xFE, 0xFC, 0xFF, 0xFE], [(0xBFFE, 0xB3), (0xBFFF, 0xB4)], fun s => (s.setA 0x12).setB 0x34,
      fun t => bytesFrom t 0xFFFE [0x12, 0x34] && bytesFrom t 0xBFFE [0xB3, 0xB4] && (after t).d == 0xB3B4⟩,
    ⟨[0xFC, 0xFF, 0xF0], [(0xFFF0, 0x11), (0xFFF1, 0x22)], id, fun t => t.d == 0x1122⟩,
    ⟨[0xFD, 0x7F, 0xFF], [(0x8000, 0x7E)], fun s => (s.setA 0xAB).setB 0xCD,
      fun t => t.cell 0x7FFF == 0xAB && t.cell 0x8000 == 0x7E⟩,
    ⟨[0xFC, 0xFF, 0xFF], [(0xBFFF, 0xB4), (0x0000, 0x99)], id, fun t => t.d == 0xB499⟩,
    ⟨[0xB7, 0xFF, 0x10], [], fun s => s.setA 0x5A, fun t => t.cell 0xFF10 == 0x5A && t.sam == 0 && t.out.isEmpty⟩,
    ⟨[0xFD, 0xFF, 0xC0], [], id, fun t => t.sam == 0x0001⟩,
    ⟨[0xB6, 0xFF, 0xC0], [], id, fun t => t.sam == 0 && t.cpu.pc == 0x1003 && t.draws == 1⟩] = true := by
  decide +kernel

/-- Vector ME12: a load past the top copies nothing. -/
theorem test_load_past_the_top : hostLoad 0xFFFF [1, 2] (running []) = .fault .addrRange := by
  rfl

/-! ## Devices -/

/-- Writes of this byte to these addresses, in order. -/
def writes (v : Byte) (addrs : List Word) : State := addrs.foldl (fun s a => write8 a v s) (running [])

/-- Vectors SA1 to SA9. -/
theorem test_sam : ([([(0xFFC1 : Word)], (0x0001 : BitVec 16), (1 : BitVec 3), (0x0000 : Word)),
    ([0xFFC1, 0xFFC2], 0x0001, 1, 0x0000), ([0xFFC1, 0xFFC3, 0xFFC5], 0x0007, 7, 0x0000),
    ([0xFFC5, 0xFFC3, 0xFFC0], 0x0006, 6, 0x0000), ([0xFFC9], 0x0010, 0, 0x0400),
    ([0xFFC7, 0xFFC9, 0xFFCB, 0xFFCD, 0xFFCF, 0xFFD1, 0xFFD3], 0x03F8, 0, 0xFE00), ([0xFFD3], 0x0200, 0, 0x8000),
    ([0xFFDF], 0x8000, 0, 0x0000), ([0xFFC1, 0xFFC0], 0x0000, 0, 0x0000)].all fun p =>
      let t := writes 0x5A p.1
      t.sam == p.2.1 && t.vdg.samVideoMode == p.2.2.1 && t.vdg.displayBase == p.2.2.2) = true := by
  decide +kernel

/-- Vectors VD1 to VD21: the SAM's mode, the byte written to PIA1's port B, the composed mode. -/
theorem test_video_modes : ([((0 : BitVec 3), (0x00 : Byte), VideoMode.alphaInternal), (0, 0x08, .alphaInternal),
    (0, 0x10, .alphaExternal), (2, 0x00, .semiGraphics8), (4, 0x00, .semiGraphics12), (6, 0x00, .semiGraphics24),
    (0, 0x80, .graphics1C), (3, 0x90, .graphics1R), (0, 0xA0, .graphics2C), (0, 0xB0, .graphics2R),
    (0, 0xC0, .graphics3C), (0, 0xD0, .graphics3R), (6, 0xE0, .graphics6C), (6, 0xF8, .graphics6R), (7, 0xF8, .dma),
    (7, 0x00, .dma), (1, 0x00, .undefinedMode), (2, 0x10, .undefinedMode), (0, 0x07, .alphaInternal),
    (0, 0x60, .alphaInternal), (0, 0x70, .alphaExternal)].all fun p =>
      let s := running []
      (write8 0xFF22 p.2.1 { s with vdg := s.vdg.setSamMode p.1 }).vdg.mode == p.2.2) = true := by
  decide +kernel

/-- Vectors KB1 to KB3: a make of Q (scan code 16) and its break, seen through port A. -/
theorem test_keyboard :
    let s := hostJoystick false false (running [])
    let q := hostKey 0x90 (hostKey 0x10 s)
    let k1 := write8 0xFF02 0x00 (hostJoystick false false s)
    let k2 := write8 0xFF02 0xFD (hostJoystick true false q)
    let k3 := write8 0xFF02 0xFD (read8 0xFF00 k2).2
    k1.pia0.rowScan = 0x7F ∧ (read8 0xFF00 k1).1 = 0x7F ∧ k2.pia0.rowCache.r4 = 0xFD ∧ k2.pia0.rowScan = 0x6F ∧
    (read8 0xFF00 k2).1 = 0xEF ∧ k3.pia0.rowCache.r4 = 0xFF ∧ k3.pia0.rowScan = 0x7F := by
  decide +kernel

/-- Vectors KB4 to KB6: rows 4 and 0 with keys down, three column patterns. -/
theorem test_keyboard_columns :
    scanRows ⟨0xFF, 0xFF, 0xFF, 0xFF, 0xFD, 0xFF, 0xFF⟩ 0xFE = 0x7F ∧
    scanRows ⟨0xFF, 0xFF, 0xFF, 0xFF, 0xFD, 0xFF, 0xFF⟩ 0x00 = 0x6F ∧
    scanRows ⟨0xFD, 0xFF, 0xFF, 0xFF, 0xFC, 0xFF, 0xFF⟩ 0xFD = 0x6E := by
  decide +kernel

/-- Vectors KB7 and KB8: F1 is latched, its break ignored, and the latch is read once. -/
theorem test_function_key :
    let t := write8 0xFF02 0xFF (hostKey 0xBB (hostKey 0x3B (running [])))
    t.pia0.fkey = 1 ∧ t.pia0.rowCache = (running []).pia0.rowCache ∧ (write8 0xFF02 0xFF t).pia0.fkey = 1 ∧
    (functionKey t).1 = 1 ∧ (functionKey (functionKey t).2).1 = 0 := by
  decide +kernel

/-- Vectors KB9 to KB13, KB15, KB16: the field sync. -/
theorem test_field_sync :
    let s := write8 0xFF03 0x01 ((running []).setCell 0xFF02 0xFD)
    let t := vsyncIrq s
    let u := (memRead16 0xFF02 t).2
    vsyncIrq (running []) = running [] ∧ t.cell 0xFF03 = 0x81 ∧ t.ctl.irqIn = true ∧ (read8 0xFF03 t).1 = 0x81 ∧
    (read8 0xFF03 t).2.ctl.irqIn = true ∧ vsyncIrq t = t ∧ (memRead16 0xFF02 t).1 = 0xFD01 ∧ u.ctl.irqIn = false ∧
    u.cell 0xFF03 = 0x01 ∧ (memRead16 0xFF01 (t.setCell 0xFF01 0x34)).1 = 0x34FD ∧
    (write8 0xFF03 0x80 s).pia0.fsEnable = false ∧ (write8 0xFF03 0x80 s).ctl.irqIn = false := by
  decide +kernel

/-- Vectors KB14, CA7, CA8, CA10: the audio multiplexer, the DAC, the mode bits. -/
theorem test_sound_and_mode_outputs :
    let s := write8 0xFF23 0x3C (running [])
    let t := write8 0xFF01 0x3C s
    s.out = [.audioMuxSet 2] ∧ t.out = [.audioMuxSet 3, .audioMuxSet 2] ∧
    (write8 0xFF01 0x34 t).pia1.audioMux = 2 ∧ write8 0xFF01 0x04 t = t.setCell 0xFF01 0x04 ∧
    (write8 0xFF20 0x83 (running [])).out = [.writeDac 0x20] ∧
    (write8 0xFF22 0xF8 (running [])).vdg.mode = .graphics6R ∧ (read8 0xFF22 (write8 0xFF22 0xF8 s)).1 = 0xF8 := by
  decide +kernel

/-- Bit 0 of `n` reads of PIA1's port A. -/
def cassetteBits : Nat → State → List Bool
  | 0, _ => []
  | n + 1, s => (read8 0xFF20 s).1.getLsbD 0 :: cassetteBits n (read8 0xFF20 s).2

/-- Vectors CA1 (its first two bit cells), CA5, CA6, CA9. -/
theorem test_cassette :
    let s := write8 0xFF21 0x3C (loaderMountCas (some [0x01]) (running []))
    let c := write8 0xFF20 0xFF s
    cassetteBits 48 s = List.replicate 4 false ++ List.replicate 4 true ++ List.replicate 20 false ++
      List.replicate 20 true ∧
    (read8 0xFF20 (running [])).2.pia1.casOctet = 0x55 ∧ (read8 0xFF20 c).1 = 0xFE ∧
    (read8 0xFF20 c).2.cell 0xFF20 = 0xFE ∧ (write8 0xFF21 0x3C (portReads 3 s)).pia1.casPhase = 3 ∧
    (write8 0xFF21 0x34 (portReads 3 s)).pia1.casFile = some [0x01] := by
  decide +kernel

/-- Text cells (section 5.2): 0x41 is glyph 1 inverse, 0x8F a full block of colour 0. -/
theorem test_text_cells :
    textCell false 0x41 = .glyph 1 (Config.textColors false).2 (Config.textColors false).1 ∧
    textCell false 0x20 = .glyph 32 (Config.textColors false).1 (Config.textColors false).2 ∧
    textCell true 0x8F = .blocks 0b1111 (Config.sgColors 0) 0 ∧
    textCell true 0xF5 = .blocks 0b0101 (Config.sgColors 7) 0 := by
  refine ⟨?_, ?_, ?_, ?_⟩ <;> rfl

/-- The bytes each mode reads (47_dev_vdg.md R376), and the sizes of a text and of a 2-bit picture. -/
theorem test_picture_sizes :
    [VideoMode.alphaInternal, .graphics1C, .graphics1R, .graphics2C, .graphics2R, .graphics3C, .graphics3R,
      .graphics6C, .graphics6R].map (fun m => (geometry m).map Geometry.bytes) =
      [some 512, some 1024, some 1024, some 2048, some 1536, some 3072, some 3072, some 6144, some 6144] ∧
    (Geometry.cells 32 16).width = 256 ∧ (Geometry.cells 32 16).height = 192 ∧
    geometry .graphics6C = some (.pixels 128 192 2) ∧ geometry .dma = none := by
  decide

/-- The last pixel of the second line of GRAPHICS_1R (47_dev_vdg.md R379): bit 0 of byte 31, sixteen bytes to a line;
in GRAPHICS_1C of the same bytes it is the low two bits of byte 31. -/
theorem test_pixels_of_a_line :
    let s := (write8 0xFF22 0x90 (running [])).setCell 31 0x03
    sourcePixel s (.pixels 128 64 1) 127 1 = Config.gfxPairs .graphics1R false true ∧
    sourcePixel s (.pixels 128 64 1) 125 1 = Config.gfxPairs .graphics1R false false ∧
    sourcePixel { s with vdg := { s.vdg with mode := .graphics1C } } (.pixels 64 64 2) 63 1 =
      Config.gfxColours .graphics1C 3 := by
  refine ⟨?_, ?_, ?_⟩ <;> rfl

/-- The fixed palette (47_dev_vdg.md R380): index 0 is black, 15 white. -/
theorem test_palette :
    hostPalette.get 0 = .black ∧ hostPalette.get 2 = .green ∧ hostPalette.get 14 = .yellow ∧
    hostPalette.get 15 = .white := by
  decide

/-- A span past 0xFFFF fails (20_memory.md R67); boot calls `fb_init(256, 192)` (70_reset_and_hazards.md R514). -/
theorem test_define_past_the_top_and_boot :
    defineRom 0x8000 0x10000 [] = .fault .addrRange ∧ defineRom 0xFFFF 0xFFFF [] = .next [⟨0xFFFF, 0xFFFF, .rom⟩] ∧
    ∃ t, boot [] [0x12] 0 = .next t ∧ t.out = [.fbInit 256 192] ∧ t.cell 0x8000 = 0x12 ∧
      t.host.fb.width = 256 ∧ t.host.fb.height = 192 :=
  ⟨rfl, rfl, _, rfl, by decide +kernel, by decide +kernel, rfl, rfl⟩

/-- The loader changes nothing but cells and the mounted file (70_reset_and_hazards.md R523): a `Load` past the top
copies nothing, one that fits does. -/
theorem test_loader_calls :
    runLoader [.load 0xFFFF [1, 2]] (running []) = running [] ∧
    (runLoader [.load 0x7FFF [1, 2], .mountCas none] (running [])).cell 0x8000 = 2 := by
  decide +kernel

/-! ## The host's words -/

/-- Words numbered as the opcode table numbers them decode, and `withFetchWord` makes the next step run them. -/
theorem test_table_words :
    decodeTableWord 8 0x3D = some .mul ∧ decodeTableWord 16 0x5A86 = some (.lda (.imm 0x5A)) ∧
    decodeTableWord 24 0x34127E = some (.jmp (.extended 0x1234)) ∧
    (after (State.reset.withFetchWord 16 0x5A86)).cpu.a = 0x5A ∧
    (after (State.reset.withFetchWord 16 0x5A86)).dbg.lastBytes = 2 := by
  decide +kernel

/-! ## Witnesses

For every obligation with hypotheses: a state and operands that meet them all, clause by clause at the ends of their
ranges. -/

theorem witness_DecodingTheEncodingGivesTheInstruction :
    Instr.wf (.lda (.mem (.indexed (.sub .s true (.extended 0xFFFF))))) = true ∧ Instr.wf .nop = true := by decide

theorem witness_DecodedBytesAreTheEncoding :
    decode [0x12, 0x00] = .instr .nop [0x00] ∧
    decode [0x11, 0xAC, 0x9F, 0xFF, 0xFF] =
      .instr (.cmps (.mem (.indexed (.sub .x true (.extended 0xFFFF))))) [] := by decide

theorem witness_IllegalOpcodesAreExactly :
    decode [0x01] = .rejected .illegalOpcode ∧ decode [0x10, 0x20] = .rejected .illegalOpcode ∧
    decode [0x11, 0x3E] = .rejected .illegalOpcode ∧ (0xCF : Byte) ≠ 0x10 ∧ (0xCF : Byte) ≠ 0x11 := by decide

theorem witness_IllegalPostbytesAreExactly :
    decode [0x30, 0x87] = .rejected .unresolvableMode ∧ decode [0x30, 0x90] = .rejected .unresolvableMode ∧
    decode [0x30, 0x8F] = .rejected .unresolvableMode ∧ decode [0x10, 0xEE, 0xF2] = .rejected .unresolvableMode ∧
    decode [0x11, 0xAC, 0xFF, 0, 0] ≠ .rejected .unresolvableMode ∧ decode [0x1F, 0xFF] = .rejected .unresolvableMode ∧
    decode [0x30, 0x7F] = .instr (.leax (.off5 .s (-1))) [] ∧ decode [0x1F, 0xBB] = .instr (.tfr .dp .dp) [] := by
  decide

theorem witness_StepRunsTheDecodedInstruction :
    ReadyToRun (running [0x8B, 0x01]) ∧ Instr.wf (.adda (.imm 1)) = true ∧
    BytesAt (running [0x8B, 0x01]) (running [0x8B, 0x01]).cpu.pc (encode (.adda (.imm 1))) :=
  ⟨by decide, by decide, by decide +kernel, by decide +kernel, by decide +kernel, by decide +kernel, trivial⟩

theorem witness_RejectedInstructionEndsInException :
    ReadyToRun (running [0x01]) ∧ BytesAt (running [0x01]) (running [0x01]).cpu.pc [0x01] ∧
    decode [0x01] = .rejected .illegalOpcode ∧
    ((running []).setRunState .exception).ctl.runState = .exception ∧
    ((running []).setRunState .exception).ctl.resetIn = false ∧
    (hostReset true ((running []).setRunState .exception)).ctl.resetIn = true :=
  ⟨by decide, ⟨by decide +kernel, by decide +kernel, trivial⟩, by decide, rfl, rfl, rfl⟩

theorem witness_ResetAndHaltSequences :
    (hostReset true (running [])).ctl.resetIn = true ∧ (hostHalt true (running [])).ctl.resetIn = false ∧
    (hostHalt true (running [])).ctl.runState ≠ .exception ∧ (hostHalt true (running [])).ctl.haltIn = true := by
  decide

theorem witness_InterruptsByPriorityAndWaits :
    let s := running []
    let m := (hostIrq true ((s.setRunState .sync).setCwaiStacked true)).setCC { s.cpu.cc with i := true }
    s.ctl.resetIn = false ∧ s.ctl.haltIn = false ∧ s.ctl.runState ≠ .exception ∧
    ((hostNmiTrigger s.armNmi).ctl.nmiArmed = true ∧ (hostNmiTrigger s.armNmi).ctl.nmiLatch = true) ∧
    ((hostFirq true s).cpu.cc.f = false ∧ (hostFirq true s).ctl.firqIn = true ∧ s.ctl.nmiLatch = false) ∧
    ((hostIrq true s).cpu.cc.i = false ∧ (hostIrq true s).ctl.irqIn = true ∧ s.ctl.firqIn = false) ∧
    (s.ctl.irqIn = false ∧ s.ctl.runState ≠ .sync) ∧
    ((hostNmiTrigger (s.setRunState .sync)).ctl.runState = .sync ∧ s.ctl.cwaiStacked = false ∧
      s.ctl.nmiArmed = false ∧ (hostNmiTrigger (s.setRunState .sync)).ctl.nmiLatch = true) ∧
    (((s.setRunState .sync).setCwaiStacked true).ctl.runState = .sync ∧
      ((s.setRunState .sync).setCwaiStacked true).ctl.cwaiStacked = true) ∧
    (m.ctl.runState = .sync ∧ m.ctl.cwaiStacked = true ∧ m.ctl.irqIn = true ∧ m.cpu.cc.i = true ∧
      m.ctl.firqIn = false ∧ m.ctl.nmiArmed = false ∧ m.ctl.resetIn = false ∧ m.ctl.haltIn = false) := by decide

theorem witness_InterruptEntryEffect :
    (running []).ctl.cwaiStacked = false ∧ ((running []).setCwaiStacked true).ctl.cwaiStacked = true ∧
    Interrupt.irq ∉ [Interrupt.swi, .swi2, .swi3] := by decide

theorem witness_InterruptFramesOnTheStack :
    ((running []).setS 0x8000).mem.wf = true ∧ ((running []).setS 0x8000).ctl.cwaiStacked = false ∧
    cellKind 0x7FF4 = .ram ∧ cellKind 0x7FFF = .ram := by decide

theorem witness_SoftwareInterruptEffect :
    ((running []).setS 0x8000).mem.wf = true ∧ cellKind (((running []).setS 0x8000).cpu.s - 12) = .ram := by decide

theorem witness_CwaiAndSyncEffect :
    let s := running [0x13]
    s.mem.wf = true ∧ s.ctl.resetIn = false ∧ s.ctl.haltIn = false ∧ s.ctl.irqIn = false ∧ s.ctl.firqIn = false ∧
    s.ctl.nmiLatch = false := by decide

theorem witness_RtiEffect :
    (PlainSpan ((running []).setS 0xFEFD).cpu.s 3 ∧
      (((running []).setS 0xFEFD).cell ((running []).setS 0xFEFD).cpu.s).getLsbD 7 = false) ∧
    (PlainSpan (((running []).setCell 0x7FF4 0x80).setS 0x7FF4).cpu.s 12 ∧
      ((((running []).setCell 0x7FF4 0x80).setS 0x7FF4).cell 0x7FF4).getLsbD 7 = true) := by decide +kernel

theorem witness_ReturnUndoesInterruptEntry :
    let s := (running []).setS 0x8000
    s.mem.wf = true ∧ s.ctl.cwaiStacked = false ∧
    (∀ j, j < 12 → cellKind (s.cpu.s - 12 + BitVec.ofNat 16 j) = .ram) := by decide +kernel

theorem witness_EveryStepKeepsTheInvariant :
    Inv (running [0x4C]) ∧ ∃ t, step (running [0x4C]) = .next t := ⟨by decide +kernel, _, rfl⟩

theorem witness_RomNeverChanges :
    (∃ t, Host.Core.run Sys2Proof.core 1 (running [0x4C]) = .next t) ∧ 0x8000 ≤ (0x8000 : Word).toNat ∧
    (0xFEFF : Word).toNat ≤ 0xFEFF := ⟨⟨_, rfl⟩, by decide, by decide⟩

theorem witness_WhatInstructionsDoToTheLatches :
    (∃ t, exec (.lds (.imm 0x7F00)) (running []) = .next t) ∧ armsNmi (.lds (.imm 0x7F00)) = true ∧
    (∃ t, exec .nop (running []) = .next t) ∧ armsNmi .nop = false := ⟨⟨_, rfl⟩, rfl, ⟨_, rfl⟩, rfl⟩

theorem witness_WrittenBytesAreReadBack :
    cellKind 0x8000 = .rom ∧ cellKind 0xFEFF = .rom ∧ cellKind 0x0000 = .ram ∧ cellKind 0x7FFF = .ram ∧
    cellKind 0xFF04 = .ram ∧ cellKind 0xFFF1 = .ram ∧ cellKind 0x7FFE = .ram ∧ cellKind (0x7FFE + 1) = .ram ∧
    (running [0x12]).mem.wf = true := by decide

theorem witness_VectorWindowReadsTheRom :
    0xFFF2 ≤ (0xFFF2 : Word).toNat ∧ 0xFFF2 ≤ (0xFFFF : Word).toNat := by decide

theorem witness_VideoModeTable :
    let s (m : BitVec 3) : State := { running [] with vdg := (running []).vdg.setSamMode m }
    (s 7).vdg.samVideoMode.toNat = 7 ∧ ((s 6).vdg.samVideoMode.toNat ≠ 7 ∧ 128 ≤ (0x80 : Byte).toNat) ∧
    ((0x6F : Byte).toNat < 128 ∧ (0x6F : Byte).toNat / 16 % 2 = 0 ∧ (s 0).vdg.samVideoMode.toNat = 0 ∧
      (s 2).vdg.samVideoMode.toNat = 2 ∧ (s 4).vdg.samVideoMode.toNat = 4 ∧ (s 6).vdg.samVideoMode.toNat = 6) ∧
    ((0x7F : Byte).toNat < 128 ∧ (0x7F : Byte).toNat / 16 % 2 = 1) ∧
    ((s 1).vdg.samVideoMode.toNat = 1 ∧ (s 3).vdg.samVideoMode.toNat = 3 ∧ (s 5).vdg.samVideoMode.toNat = 5) := by
  decide

theorem witness_KeyboardScanAndEvents :
    (running []).mem.wf = true ∧ (running []).host.keyEvents = [] ∧
    (hostKey 0x90 (hostKey 0x10 (running []))).host.keyEvents = 0x10 :: [(0x10 : Byte) ||| 0x80] ∧
    (0x10 : Byte) ≠ 0 ∧ (0x10 : Byte).toNat ≤ 80 ∧ ¬ (59 ≤ (0x10 : Byte).toNat ∧ (0x10 : Byte).toNat ≤ 68) ∧
    (∀ r, (running []).pia0.rowCache.get r = 0xFF) ∧
    (59 ≤ (0x3B : Byte).toNat ∧ (0x44 : Byte).toNat ≤ 68) ∧ (80 < (0x51 : Byte).toNat ∧ (0x7F : Byte).toNat < 128) ∧
    (hostKey 0xBB (hostKey 0x3B (running []))).host.keyEvents = 0x3B :: [(0x3B : Byte) ||| 0x80] := by decide

theorem witness_FieldSyncIsSetAndAcknowledged :
    (running []).mem.wf = true ∧ (0x01 : Byte).getLsbD 0 = true ∧ (0xFE : Byte).getLsbD 0 = false := by decide

theorem witness_JoystickAndRowsOnPortA :
    (hostJoystick true false (running [])).mem.wf = true ∧
    (hostJoystick true false (running [])).host.joystkComp = [true] ∧
    (hostJoystick true false (running [])).host.rjoystkButton = [false] := by decide

theorem witness_SoundOutputs :
    (0x3C : Byte).toNat / 8 % 8 = 7 ∧ (0x34 : Byte).toNat / 8 % 8 = 6 ∧ (0x2F : Byte).toNat / 8 % 8 < 6 := by decide

theorem witness_CassetteMotorAndNextOctet :
    let s := running []
    ((0x3C : Byte).toNat / 8 % 8 = 7 ∧ s.pia1.prevCraCa2.toNat ≠ 7) ∧ (0x34 : Byte).toNat / 8 % 8 ≠ 7 ∧
    (write8 0xFF21 0x3C s).pia1.prevCraCa2.toNat = 7 ∧ s.pia1.casBitsLeft = 0 ∧ s.pia1.casPhase = 0 := by decide +kernel

theorem witness_CassetteBitCell :
    let s : State :=
      { running [] with pia1 := { (running []).pia1 with casOctet := 0x55, casBitsLeft := 9, casThreshold := 4 } }
    s.mem.wf = true ∧ CassetteSound s.pia1 ∧ s.pia1.casPhase = 0 ∧ s.pia1.casBitsLeft ≠ 0 ∧
    (7 < 2 * s.pia1.casThreshold ∧ 8 = 2 * s.pia1.casThreshold) ∧ 1 < s.pia1.casBitsLeft := by decide +kernel

/-- The framebuffer at a mode's source size. -/
def showing (m : VideoMode) (w h : Nat) : State :=
  { (running []).setFb ⟨w, h, hostPalette, none⟩ with vdg := { (running []).vdg with mode := m, prevMode := m } }

theorem witness_RenderPaintsOrStops :
    (write8 0xFF22 0x10 (running [])).vdg.mode ∈ [VideoMode.alphaExternal, .dma, .undefinedMode] ∧
    (∃ t, render (showing .alphaInternal 256 192) = .next t ∧ t.host.fb.width = 256 ∧ t.host.fb.height = 192) ∧
    (∃ t, render (showing .graphics1C 64 64) = .next t ∧ t.host.fb.width = 64 ∧ t.host.fb.height = 64) ∧
    (∃ t, render (showing .graphics6R 256 192) = .next t ∧ t.host.fb.width = 256 ∧ t.host.fb.height = 192) :=
  ⟨by decide +kernel, ⟨_, rfl, rfl, rfl⟩, ⟨_, rfl, rfl, rfl⟩, ⟨_, rfl, rfl, rfl⟩⟩

theorem witness_EffectiveAddressForms :
    PointerPlain (.indexed (.sub .x true .noOffset)) ((running []).setX 0xFEFE) ∧
    PointerPlain (.indexed (.sub .s true (.extended 0x7FFF))) (running []) := by
  constructor <;> exact ⟨by decide +kernel, by decide +kernel⟩

theorem witness_AddressingSideEffects :
    PointerPlain (.indexed (.sub .y true .preDec2)) ((running []).setY 0x2002) ∧
    PointerPlain (.direct 0xFF) (running []) := ⟨⟨by decide +kernel, by decide +kernel⟩, trivial⟩

theorem witness_OperandValues :
    PointerPlain (.extended 0xFEFE) (running []) ∧ isIo (ea (.extended 0xFEFE) (running [])).1 = false ∧
    isIo ((ea (.extended 0xFEFE) (running [])).1 + 1) = false := ⟨trivial, by decide +kernel, by decide +kernel⟩

theorem witness_StoreAccumulatorResult :
    (running []).mem.wf = true ∧ cellKind (ea (.extended 0x7FFF) (running [])).1 = .ram := by decide +kernel

theorem witness_StoreWordResult :
    (running []).mem.wf = true ∧ cellKind (ea (.extended 0x7FFE) (running [])).1 = .ram ∧
    cellKind ((ea (.extended 0x7FFE) (running [])).1 + 1) = .ram := by decide +kernel

theorem witness_TransferAndExchangeResult :
    isWideReg .d = true ∧ isWideReg .pc = true ∧ isWideReg .a = false ∧ isWideReg .dp = false := by decide

theorem witness_MixedSizeTransfersAreFree : isWideReg .a ≠ isWideReg .x := by decide

theorem witness_PushListResult :
    ((running []).setS 0x8000).mem.wf = true ∧ cellKind (((running []).setS 0x8000).sp .system - 12) = .ram := by
  decide

theorem witness_PullListResult :
    PlainSpan (((running []).setS 0x7FF4).sp .system) (listBytes 0xFF) ∧ PlainSpan 0xFF00 (listBytes 0x00) := by
  decide +kernel

theorem witness_UnaryOnMemory :
    (running []).mem.wf = true ∧ cellKind (ea (.direct 0x10) (running [])).1 = .ram := by decide +kernel

theorem witness_DecimalAdditionOfTwoDigits :
    ((running []).setA 0x99).cpu.a = 0x99 ∧ (0x99 : Byte).toNat % 16 ≤ 9 ∧ (0x99 : Byte).toNat / 16 ≤ 9 ∧
    (0x00 : Byte).toNat % 16 ≤ 9 ∧ (0x00 : Byte).toNat / 16 ≤ 9 := by decide

theorem witness_BranchesByCondition :
    (ccZero.c = false ∧ ccZero.z = false) ∧ ¬ (ccZero.c = true ∨ ccZero.z = true) := by decide

theorem witness_BranchesAfterCompare : (0x10 : Byte) ≠ 0 := by decide

theorem witness_CallResult :
    (∃ m, Instr.jsr (.direct 0x40) = .jsr m ∧ (ea (.direct 0x40) (running [])).1 = (ea m (running [])).1) ∧
    (0x0F82 : Word).toNat = ((0x1002 : Word).toNat + (0x80 : Byte).toInt) % 65536 ∧
    (0x0002 : Word).toNat = ((0x1003 : Word).toNat + (0xEFFF : Word).toInt) % 65536 ∧ (running []).mem.wf = true :=
  ⟨⟨.direct 0x40, rfl, rfl⟩, by decide, by decide, by decide⟩

theorem witness_ReturnFromSubroutine :
    let s := (running []).setS 0x8000
    PlainSpan s.cpu.s 2 ∧ s.mem.wf = true ∧ cellKind (s.cpu.s - 2) = .ram ∧ cellKind (s.cpu.s - 1) = .ram ∧
    ∃ t, exec (.bsr 0x10) s = .next t := ⟨by decide +kernel, by decide, by decide, by decide, _, rfl⟩

theorem witness_AddressMapOfTheMachine :
    ((0x7FFF : Word).toNat ≤ 0x7FFF ∧ 0x8000 ≤ (0x8000 : Word).toNat ∧ (0xFEFF : Word).toNat ≤ 0xFEFF) ∧
    (0xFF04 ≤ (0xFF04 : Word).toNat ∧ (0xFF1F : Word).toNat ≤ 0xFF1F ∧ 0xFF24 ≤ (0xFF24 : Word).toNat ∧
      (0xFFBF : Word).toNat ≤ 0xFFBF) ∧
    (0xFFC0 ≤ (0xFFC0 : Word).toNat ∧ (0xFFDF : Word).toNat ≤ 0xFFDF ∧ 0xFFE0 ≤ (0xFFE0 : Word).toNat ∧
      (0xFFF1 : Word).toNat ≤ 0xFFF1 ∧ 0xFFF2 ≤ (0xFFF2 : Word).toNat) ∧
    65536 ≤ 65536 := by decide

end Sys2Proof.Tests
end

section
/-! SUPPORT. What no operation of the CPU does: no read, fetch or register transfer changes a cell without a callback,
and nothing at all changes a ROM cell (20_memory.md R68). Said once per shared operation, then for every instruction,
for a step and for any number of steps. -/

namespace Sys2Proof.Machine

/-! ## Registers and the memory -/

/-- What a cell holds is a matter of the memory alone. -/
theorem State.cell_congr {s t : State} (h : t.mem = s.mem) (b : Word) : t.cell b = s.cell b := by
  rw [State.cell, State.cell, h]

@[simp] theorem regWrite8_mem (r : Reg) (v : Byte) (s : State) : (regWrite8 r v s).mem = s.mem := by cases r <;> rfl

@[simp] theorem regWrite16_mem (r : Reg) (w : Word) (s : State) : (regWrite16 r w s).mem = s.mem := by cases r <;> rfl

@[simp] theorem regWriteFree_mem (r : Reg) (s : State) : (regWriteFree r s).mem = s.mem := by
  unfold regWriteFree
  dsimp only [State.drawWord]
  split
  · rw [regWrite16_mem]; rfl
  · rw [regWrite8_mem]; rfl

theorem transfer_mem (r1 r2 : Reg) (s : State) : (transfer r1 r2 s).mem = s.mem := by
  unfold transfer
  split <;> simp

theorem exchange_mem (r1 r2 : Reg) (s : State) : (exchange r1 r2 s).mem = s.mem := by
  unfold exchange
  split <;> simp

theorem unaryAcc_mem (f : Byte → CC → Byte × CC) (r : Acc) (s : State) : (unaryAcc f r s).mem = s.mem := by
  simp [unaryAcc]

theorem unaryAccFree_mem (f : Bool → Byte → CC → Byte × CC) (r : Acc) (s : State) :
    (unaryAccFree f r s).mem = s.mem := by
  rw [unaryAccFree, unaryAcc_mem]; rfl

theorem branchIf_mem (taken : Bool) (off : Word) (s : State) : (branchIf taken off s).mem = s.mem := by
  cases taken <;> rfl

@[simp] theorem addCycles_cell (n : Nat) (s : State) (b : Word) : (addCycles n s).cell b = s.cell b := rfl

/-- One register of a list, pulled or left out. -/
theorem doIf_cell {b : Word} {f : State → State} (hf : ∀ s, (f s).cell b = s.cell b) (c : Bool) (s : State) :
    (doIf c f s).cell b = s.cell b := by
  cases c
  · rfl
  · exact hf s

/-! ## Operations that only read: no cell without a callback changes -/

section Reads
variable {b : Word} (hb : isIo b = false)
include hb

theorem load8_cell (r : Acc) (o : Src8) (s : State) : (load8 r o s).cell b = s.cell b := by
  simp [load8, operand8_cell o s b hb]

theorem load16_cell (r : Wide) (o : Src16) (s : State) : (load16 r o s).cell b = s.cell b := by
  simp [load16, operand16_cell o s b hb]

theorem loadEA_cell (r : Wide) (ix : Indexed) (s : State) : (loadEA r ix s).cell b = s.cell b := by
  rw [loadEA, State.setWide_cell]
  exact ea_cell hb (.indexed ix) s

theorem loadEAZ_cell (r : Wide) (ix : Indexed) (s : State) : (loadEAZ r ix s).cell b = s.cell b := by
  rw [loadEAZ, State.cell_setCC, loadEA_cell hb]

theorem accOp_cell (f : Byte → Byte → CC → Byte × CC) (r : Acc) (o : Src8) (s : State) :
    (accOp f r o s).cell b = s.cell b := by
  simp [accOp, operand8_cell o s b hb]

theorem accTest_cell (f : Byte → Byte → CC → Byte × CC) (r : Acc) (o : Src8) (s : State) :
    (accTest f r o s).cell b = s.cell b := by
  simp [accTest, operand8_cell o s b hb]

theorem accOpFree_cell (f : Bool → Byte → Byte → CC → Byte × CC) (r : Acc) (o : Src8) (s : State) :
    (accOpFree f r o s).cell b = s.cell b := by
  simp [accOpFree, State.drawBit, operand8_cell o s b hb]

theorem accTestFree_cell (f : Bool → Byte → Byte → CC → Byte × CC) (r : Acc) (o : Src8) (s : State) :
    (accTestFree f r o s).cell b = s.cell b := by
  simp [accTestFree, State.drawBit, operand8_cell o s b hb]

theorem wideOp_cell (f : Word → Word → CC → Word × CC) (r : Wide) (o : Src16) (s : State) :
    (wideOp f r o s).cell b = s.cell b := by
  simp [wideOp, operand16_cell o s b hb]

theorem wideTest_cell (f : Word → Word → CC → Word × CC) (r : Wide) (o : Src16) (s : State) :
    (wideTest f r o s).cell b = s.cell b := by
  simp [wideTest, operand16_cell o s b hb]

theorem testMem_cell (m : Mem) (s : State) : (testMem m s).cell b = s.cell b := by
  simp [testMem, read8_cell hb, ea_cell hb]

theorem pullPC_cell (k : Stack) (s : State) : (pullPC k s).cell b = s.cell b := by
  simp [pullPC, pull16_cell hb]

theorem pullCC_cell (k : Stack) (s : State) : (pullCC k s).cell b = s.cell b := by
  simp [pullCC, pull8_cell hb]

theorem pullOther_cell (k : Stack) (s : State) : (pullOther k s).cell b = s.cell b := by
  cases k <;> simp [pullOther, pull16_cell hb]

theorem pullList_cell (k : Stack) (list : Byte) (s : State) : (pullList k list s).cell b = s.cell b := by
  have hA (s : State) : (pullA k s).cell b = s.cell b := by simp [pullA, pull8_cell hb]
  have hB (s : State) : (pullB k s).cell b = s.cell b := by simp [pullB, pull8_cell hb]
  have hDP (s : State) : (pullDP k s).cell b = s.cell b := by simp [pullDP, pull8_cell hb]
  have hX (s : State) : (pullX k s).cell b = s.cell b := by simp [pullX, pull16_cell hb]
  have hY (s : State) : (pullY k s).cell b = s.cell b := by simp [pullY, pull16_cell hb]
  simp only [pullList, doIf_cell (pullCC_cell hb k), doIf_cell hA, doIf_cell hB, doIf_cell hDP, doIf_cell hX,
    doIf_cell hY, doIf_cell (pullOther_cell hb k), doIf_cell (pullPC_cell hb k)]

theorem returnFromInterrupt_cell (s : State) : (returnFromInterrupt s).cell b = s.cell b := by
  rw [returnFromInterrupt, pullPC_cell hb]
  split
  · rw [addCycles_cell, pullList_cell hb, pullCC_cell hb]
  · rw [pullCC_cell hb]

theorem loadVector_cell (v : Word) (s : State) : (loadVector v s).cell b = s.cell b := by
  rw [loadVector, State.cell_setPC, memRead16_cell hb]

theorem resetSequence_cell (s : State) : (resetSequence s).cell b = s.cell b := by
  rw [resetSequence, State.cell_setRunState, loadVector_cell hb]; rfl

/-- A fetch is a read, wherever PC points. -/
theorem fetch8_cell (s : State) : (fetch8 s).2.cell b = s.cell b := by
  rw [fetch8, State.cell_setPC, read8_cell hb]

end Reads

/-! ## Operations that write: no ROM cell changes -/

section Writes
variable {b : Word} (hb : cellKind b = .rom)
include hb

theorem store8_cell_rom (r : Acc) (m : Mem) (s : State) : (store8 r m s).cell b = s.cell b := by
  simp [store8, write8_cell_rom hb, ea_cell (isIo_rom hb)]

theorem store16_cell_rom (r : Wide) (m : Mem) (s : State) : (store16 r m s).cell b = s.cell b := by
  simp [store16, memWrite16_cell_rom hb, ea_cell (isIo_rom hb)]

theorem modify_cell_rom (f : Byte → CC → Byte × CC) (m : Mem) (s : State) : (modify f m s).cell b = s.cell b := by
  simp [modify, write8_cell_rom hb, read8_cell (isIo_rom hb), ea_cell (isIo_rom hb)]

theorem modifyFree_cell_rom (f : Bool → Byte → CC → Byte × CC) (m : Mem) (s : State) :
    (modifyFree f m s).cell b = s.cell b := by
  simp [modifyFree, State.drawBit, write8_cell_rom hb, read8_cell (isIo_rom hb), ea_cell (isIo_rom hb)]

theorem clearMem_cell_rom (m : Mem) (s : State) : (clearMem m s).cell b = s.cell b := by
  rw [clearMem, State.cell_setCC, write8_cell_rom hb]
  split
  · rw [read8_cell (isIo_rom hb), ea_cell (isIo_rom hb)]
  · rw [ea_cell (isIo_rom hb)]

theorem pushList_cell_rom (k : Stack) (list : Byte) (s : State) : (pushList k list s).cell b = s.cell b := by
  rw [pushList_eq, pushBytes_cell_rom hb]

theorem callTo_cell_rom (target : Word) (s : State) : (callTo target s).cell b = s.cell b := by
  rw [callTo, State.cell_setPC, push16_cell_rom hb]

theorem enterInterrupt_cell_rom (k : Interrupt) (s : State) : (enterInterrupt k s).cell b = s.cell b := by
  rw [enterInterrupt_cell (isIo_rom hb), stackFrame_cell_rom hb]

theorem waitStacked_cell_rom (m : Byte) (s : State) : (waitStacked m s).cell b = s.cell b := by
  simp [waitStacked, pushFullFrame, pushList_cell_rom hb]

end Writes

/-! ## Instructions, steps, runs -/

/-- Every instruction completes and leaves every ROM cell as it is (20_memory.md R68): one case per shape. -/
theorem exec_cell_rom {b : Word} (hb : cellKind b = .rom) (i : Instr) (s : State) :
    ∃ t, exec i s = .next t ∧ t.cell b = s.cell b := by
  have hio : isIo b = false := isIo_rom hb
  cases i with
  | lda | ldb => exact ⟨_, rfl, load8_cell hio _ _ _⟩
  | ldd | ldx | ldy | ldu => exact ⟨_, rfl, load16_cell hio _ _ _⟩
  | lds => exact ⟨_, rfl, by rw [State.cell_armNmi, load16_cell hio]⟩
  | sta | stb => exact ⟨_, rfl, store8_cell_rom hb _ _ _⟩
  | std | stx | sty | stu | sts => exact ⟨_, rfl, store16_cell_rom hb _ _ _⟩
  | leax | leay => exact ⟨_, rfl, loadEAZ_cell hio _ _ _⟩
  | leas => exact ⟨_, rfl, by rw [State.cell_armNmi, loadEA_cell hio]⟩
  | leau => exact ⟨_, rfl, loadEA_cell hio _ _ _⟩
  | tfr => exact ⟨_, rfl, State.cell_congr (transfer_mem _ _ _) b⟩
  | exg => exact ⟨_, rfl, State.cell_congr (exchange_mem _ _ _) b⟩
  | pshs | pshu => exact ⟨_, rfl, pushList_cell_rom hb _ _ _⟩
  | puls | pulu => exact ⟨_, rfl, pullList_cell hio _ _ _⟩
  | adda | addb | adca | adcb | anda | andb | ora | orb | eora | eorb => exact ⟨_, rfl, accOp_cell hio _ _ _ _⟩
  | bita | bitb => exact ⟨_, rfl, accTest_cell hio _ _ _ _⟩
  | suba | subb | sbca | sbcb => exact ⟨_, rfl, accOpFree_cell hio _ _ _ _⟩
  | cmpa | cmpb => exact ⟨_, rfl, accTestFree_cell hio _ _ _ _⟩
  | addd | subd => exact ⟨_, rfl, wideOp_cell hio _ _ _ _⟩
  | cmpd | cmpx | cmpy | cmpu | cmps => exact ⟨_, rfl, wideTest_cell hio _ _ _ _⟩
  | inca | incb | deca | decb | clra | clrb | daa | coma | comb | lsra | lsrb | rola | rolb | rora | rorb =>
    exact ⟨_, rfl, State.cell_congr (unaryAcc_mem _ _ _) b⟩
  | nega | negb | asla | aslb | asra | asrb => exact ⟨_, rfl, State.cell_congr (unaryAccFree_mem _ _ _) b⟩
  | inc | dec | com | lsr | rol | ror => exact ⟨_, rfl, modify_cell_rom hb _ _ _⟩
  | neg | asl | asr => exact ⟨_, rfl, modifyFree_cell_rom hb _ _ _⟩
  | tst => exact ⟨_, rfl, testMem_cell hio _ _⟩
  | clr => exact ⟨_, rfl, clearMem_cell_rom hb _ _⟩
  | tsta | tstb | mul | sex | abx | andcc | orcc | nop | sync => exact ⟨_, rfl, rfl⟩
  | bra | brn | bhi | bls | bcc | bcs | bne | beq | bvc | bvs | bpl | bmi | bge | blt | bgt | ble | lbra | lbrn
  | lbhi | lbls | lbcc | lbcs | lbne | lbeq | lbvc | lbvs | lbpl | lbmi | lbge | lblt | lbgt | lble =>
    exact ⟨_, rfl, State.cell_congr (branchIf_mem _ _ _) b⟩
  | jmp => exact ⟨_, rfl, by rw [State.cell_setPC, ea_cell hio]⟩
  | jsr => exact ⟨_, rfl, by rw [callTo_cell_rom hb, ea_cell hio]⟩
  | bsr | lbsr => exact ⟨_, rfl, callTo_cell_rom hb _ _⟩
  | rts => exact ⟨_, rfl, pullPC_cell hio _ _⟩
  | swi | swi2 | swi3 => exact ⟨_, rfl, enterInterrupt_cell_rom hb _ _⟩
  | rti => exact ⟨_, rfl, returnFromInterrupt_cell hio _⟩
  | cwai => exact ⟨_, rfl, waitStacked_cell_rom hb _ _⟩

/-- The state a fetch ends in, whether or not the decoder accepts its bytes. -/
def Fetched.state : Fetched → State
  | .instr _ _ s => s
  | .rejected _ _ s => s

/-- A fetch, from whatever cells, changes no cell without a callback. -/
theorem fetchParse_cell {b : Word} (hb : isIo b = false) (p : Parse Instr) (n : Nat) (s : State) :
    (fetchParse p n s).state.cell b = s.cell b := by
  induction p generalizing n s with
  | done i => rfl
  | reject c => rfl
  | need k ih => rw [fetchParse, ih, fetch8_cell hb]

theorem executeNext_cell_rom {b : Word} (hb : cellKind b = .rom) (s : State) :
    ∃ t, executeNext s = .next t ∧ t.cell b = s.cell b := by
  have hfetch := fetchParse_cell (isIo_rom hb) parseInstr 0 (notePc s)
  unfold executeNext
  split
  next i n u hu =>
    rw [hu] at hfetch
    obtain ⟨t, ht, hcell⟩ := exec_cell_rom hb i (noteInstr i n u)
    exact ⟨t, ht, hcell.trans hfetch⟩
  next c n u hu =>
    rw [hu] at hfetch
    exact ⟨_, rfl, hfetch⟩

/-- Every step answers a next state and leaves every ROM cell as it is (20_memory.md R68). -/
theorem step_cell_rom {b : Word} (hb : cellKind b = .rom) (s : State) :
    ∃ t, step s = .next t ∧ t.cell b = s.cell b := by
  unfold step stepOnce
  split
  · exact ⟨s, rfl, rfl⟩
  split
  · exact ⟨_, rfl, resetSequence_cell (isIo_rom hb) s⟩
  split
  · exact ⟨_, rfl, rfl⟩
  unfold runStep
  split
  next k _ =>
    obtain ⟨t, ht, hcell⟩ := executeNext_cell_rom hb (enterInterrupt k s)
    exact ⟨t, ht, hcell.trans (enterInterrupt_cell_rom hb k s)⟩
  next =>
    split
    · split
      · exact executeNext_cell_rom hb (s.setRunState .exec)
      · exact ⟨s, rfl, rfl⟩
    · exact executeNext_cell_rom hb s

/-- What every step of a machine keeps, every run keeps. -/
theorem run_keeps {M : Host.Core} {P : M.State → Prop} (hstep : ∀ s t, M.step s = .next t → P s → P t) {n : Nat}
    {s t : M.State} (hrun : M.run n s = .next t) (hs : P s) : P t := by
  induction n generalizing s with
  | zero =>
    cases hrun
    exact hs
  | succ n ih =>
    unfold Host.Core.run at hrun
    split at hrun
    next u hu => exact ih hrun (hstep s u hu hs)
    next => cases hrun
    next => cases hrun

theorem run_cell_rom {b : Word} (hb : cellKind b = .rom) {n : Nat} {s t : State}
    (hrun : Host.Core.run Sys2Proof.core n s = .next t) : t.cell b = s.cell b := by
  have hstep (u v : State) (huv : step u = .next v) (hu : u.cell b = s.cell b) : v.cell b = s.cell b := by
    obtain ⟨w, hw, hcell⟩ := step_cell_rom hb u
    rw [huv] at hw
    cases hw
    exact hcell.trans hu
  exact run_keeps (M := Sys2Proof.core) (P := fun u => State.cell u b = s.cell b) hstep hrun rfl

/-- Settles O19: a ROM address reads as its cell, with no callback, and no run changes a ROM cell. -/
theorem romNeverChanges : Obligations.RomNeverChanges := by
  intro n s t a hrun hlow hhigh
  have hrom : cellKind a = .rom := cellKind_rom hlow hhigh
  rw [read8_plain (isIo_rom hrom), read8_plain (isIo_rom hrom)]
  exact run_cell_rom hrom hrun

end Sys2Proof.Machine
end

section
/-! SUPPORT. Loading an effective address (41_load_store_transfer.md R165..R168): what `loadEA` and `loadEAZ` put in the
register and in CC, and that with the register and CC restored nothing is left but the addressing. -/

namespace Sys2Proof.Machine

/-! ## Writing back what a state held -/

@[simp] theorem State.setWide_setWide_wide (s : State) (r : Wide) (w : Word) :
    (s.setWide r w).setWide r (s.wide r) = s := by
  cases r
  case d => simp [State.setWide, State.wide, State.setD, State.setA, State.setB, State.d, hi_join, lo_join]
  all_goals rfl

theorem State.setWide_setCC (s : State) (r : Wide) (w : Word) (c : CC) :
    (s.setCC c).setWide r w = (s.setWide r w).setCC c := by cases r <;> rfl

@[simp] theorem State.setCC_setCC (s : State) (c c' : CC) : (s.setCC c).setCC c' = s.setCC c' := rfl

@[simp] theorem State.wide_setCC (s : State) (r : Wide) (c : CC) : (s.setCC c).wide r = s.wide r := by cases r <;> rfl

theorem ea_cc (m : Mem) (s : State) : (ea m s).2.cpu.cc = s.cpu.cc := (ea_regs m s).1

/-- Addressing leaves CC, so the CC of before restores nothing. -/
theorem ea_setCC (m : Mem) (s : State) : (ea m s).2.setCC s.cpu.cc = (ea m s).2 := by
  rw [← ea_cc m s]; rfl

/-! ## LEA without and with Z -/

theorem loadEA_eq (r : Wide) (ix : Indexed) (s : State) :
    loadEA r ix s = (ea (.indexed ix) s).2.setWide r (ea (.indexed ix) s).1 := rfl

theorem loadEA_wide (r : Wide) (ix : Indexed) (s : State) : (loadEA r ix s).wide r = (ea (.indexed ix) s).1 := by
  rw [loadEA_eq, State.wide_setWide]

theorem loadEA_cc (r : Wide) (ix : Indexed) (s : State) : (loadEA r ix s).cpu.cc = s.cpu.cc := by
  rw [loadEA_eq, State.setWide_cc, ea_cc]

/-- The register is the only thing LEA changes beyond the addressing. -/
theorem loadEA_restored (r : Wide) (ix : Indexed) (s : State) :
    ((loadEA r ix s).setWide r ((ea (.indexed ix) s).2.wide r)).setCC s.cpu.cc = (ea (.indexed ix) s).2 := by
  rw [loadEA_eq, State.setWide_setWide_wide, ea_setCC]

theorem loadEAZ_wide (r : Wide) (ix : Indexed) (s : State) : (loadEAZ r ix s).wide r = (ea (.indexed ix) s).1 := by
  rw [loadEAZ, State.wide_setCC, loadEA_wide]

theorem loadEAZ_cc (r : Wide) (ix : Indexed) (s : State) :
    (loadEAZ r ix s).cpu.cc = { s.cpu.cc with z := decide ((ea (.indexed ix) s).1.toNat = 0) } := by
  rw [loadEAZ, State.setCC_cpu, loadEA_cc, loadEA_wide, zero16]

/-- The register and Z are the only things LEAX and LEAY change beyond the addressing. -/
theorem loadEAZ_restored (r : Wide) (ix : Indexed) (s : State) :
    ((loadEAZ r ix s).setWide r ((ea (.indexed ix) s).2.wide r)).setCC s.cpu.cc = (ea (.indexed ix) s).2 := by
  rw [loadEAZ, State.setWide_setCC, State.setCC_setCC, loadEA_restored]

/-- Settles O39: LEAX and LEAY are `loadEAZ`, LEAU is `loadEA`, LEAS is `loadEA` and arms the NMI. -/
theorem loadEffectiveAddressResult : Obligations.LoadEffectiveAddressResult := by
  intro p hp ix s
  simp only [List.mem_cons, List.not_mem_nil, or_false] at hp
  rcases hp with rfl | rfl | rfl | rfl
  case inl | inr.inl =>
    exact ⟨rfl, _, rfl, loadEAZ_wide _ ix s, loadEAZ_cc _ ix s, loadEAZ_restored _ ix s,
      fun _ ha => loadEAZ_cell ha _ ix s⟩
  case inr.inr.inl =>
    exact ⟨rfl, _, rfl, loadEA_wide .s ix s, loadEA_cc .s ix s, congrArg State.armNmi (loadEA_restored .s ix s),
      fun _ ha => loadEA_cell ha .s ix s⟩
  case inr.inr.inr =>
    exact ⟨rfl, _, rfl, loadEA_wide .u ix s, loadEA_cc .u ix s, loadEA_restored .u ix s,
      fun _ ha => loadEA_cell ha .u ix s⟩

end Sys2Proof.Machine
end

section
/-! SUPPORT. Interrupt entry (60_exceptions.md R466): what the vector, the masks and the frame of a software interrupt
do to the registers, the latches and the memory (45_system.md R330..R332). -/

namespace Sys2Proof.Machine

/-! ## Vectors and masks -/

section Vectors
variable {v : Word} (hv : v ∈ [(0xFFF2 : Word), 0xFFF4, 0xFFF6, 0xFFF8, 0xFFFA, 0xFFFC])
include hv

/-- A vector comes from the ROM word 0x4000 lower; no other register moves. -/
theorem loadVector_cpu (s : State) : (loadVector v s).cpu = { s.cpu with pc := s.word (v - 0x4000) } := by
  rw [loadVector, memRead16_vector hv]; rfl

/-- The window's callback touches no latch. -/
theorem loadVector_ctl (s : State) : (loadVector v s).ctl = s.ctl := by
  rw [loadVector, memRead16_vector hv]; rfl

end Vectors

theorem loadVector_dbg (v : Word) (s : State) : (loadVector v s).dbg = s.dbg := memRead16_dbg v s

theorem maskFor_dbg (k : Interrupt) (s : State) : (maskFor k s).dbg = s.dbg := by cases k <;> rfl

/-- Of the software interrupts SWI alone masks F and I. -/
theorem maskFor_software_cpu {k : Interrupt} (hk : k.isHardware = false) (s : State) :
    (maskFor k s).cpu =
      { s.cpu with cc := { s.cpu.cc with
          f := s.cpu.cc.f || decide (k = .swi), i := s.cpu.cc.i || decide (k = .swi) } } := by
  cases k with
  | swi | swi2 | swi3 => simp [maskFor]
  | nmi | firq | irq => cases hk

theorem maskFor_software_ctl {k : Interrupt} (hk : k.isHardware = false) (s : State) : (maskFor k s).ctl = s.ctl := by
  cases k with
  | swi | swi2 | swi3 => rfl
  | nmi | firq | irq => cases hk

/-! ## An entry, from its frame -/

/-- The vector is ROM, so the stacked bytes cannot change the handler's address. -/
theorem enterInterrupt_cpu (k : Interrupt) (s : State) :
    (enterInterrupt k s).cpu =
      { (maskFor k (stackFrame k s)).cpu with pc := s.word (vector k - 0x4000) } := by
  obtain ⟨-, -, -, -, hrom, hrom', -⟩ := vectorCells (vector_mem k)
  have hword : (maskFor k (stackFrame k s)).word (vector k - 0x4000) = s.word (vector k - 0x4000) := by
    simp only [State.word, State.cell_congr (maskFor_mem k _), stackFrame_cell_rom hrom, stackFrame_cell_rom hrom']
  rw [enterInterrupt, State.setRunState_cpu, loadVector_cpu (vector_mem k), hword]

theorem enterInterrupt_ctl (k : Interrupt) (s : State) :
    (enterInterrupt k s).ctl = { (maskFor k (stackFrame k s)).ctl with runState := .exec } := by
  rw [enterInterrupt, State.setRunState_ctl, loadVector_ctl (vector_mem k)]

theorem enterInterrupt_dbg (k : Interrupt) (s : State) : (enterInterrupt k s).dbg = (stackFrame k s).dbg := by
  rw [enterInterrupt, State.setRunState_dbg, loadVector_dbg, maskFor_dbg]

/-! ## The entry of a software interrupt -/

section Software
variable {k : Interrupt} (hk : k.isHardware = false)
include hk

/-- A software interrupt pushes the full frame, whatever the CWAI mark says (92_eei_decisions.md D52). -/
theorem stackFrame_software (s : State) : stackFrame k s = pushBytes .system (fullFrame s) (s.setE true) := by
  refine stackFrame_full (by rw [hk, Bool.and_false]) ?_
  rintro rfl
  cases hk

theorem enterSoftware_cpu (s : State) :
    (enterInterrupt k s).cpu = { s.cpu with
      s := s.cpu.s - 12
      pc := s.word (vector k - 0x4000)
      cc := { s.cpu.cc with
        e := true, f := s.cpu.cc.f || decide (k = .swi), i := s.cpu.cc.i || decide (k = .swi) } } := by
  rw [enterInterrupt_cpu, maskFor_software_cpu hk, stackFrame_software hk, pushBytes_cpu]
  rfl

theorem enterSoftware_ctl (s : State) : (enterInterrupt k s).ctl = { s.ctl with runState := .exec } := by
  rw [enterInterrupt_ctl, maskFor_software_ctl hk, stackFrame_software hk, pushBytes_ctl, State.setE_ctl]

theorem enterSoftware_dbg (s : State) : (enterInterrupt k s).dbg = s.dbg := by
  rw [enterInterrupt_dbg, stackFrame_software hk, pushBytes_dbg, State.setE_dbg]

/-- The frame's bytes that fall into RAM lie there after the entry: the vector read fills window cells only. -/
theorem enterSoftware_ramHolds {s : State} (hw : s.mem.wf = true) :
    RamHolds (enterInterrupt k s) (s.cpu.s - 12) (fullFrame s) := by
  intro j b hj hram
  rw [enterInterrupt_cell (isIo_ram hram), stackFrame_software hk]
  exact pushBytes_ramHolds (k := .system) (s := s.setE true) hw (by simp [fullFrame]) j b hj hram

theorem enterSoftware_cells (s : State) :
    PlainCellsSameBut (Within (s.cpu.s - 12) 12) s (enterInterrupt k s) := by
  intro a ha hout
  rw [enterInterrupt_cell ha, stackFrame_software hk]
  exact pushBytes_cell (k := .system) (bs := fullFrame s) (s := s.setE true) ha hout

end Software

/-- Settles O13: each of the three instructions is its entry. -/
theorem softwareInterruptEffect : Obligations.SoftwareInterruptEffect := by
  intro p hp s
  simp only [List.mem_cons, List.not_mem_nil, or_false] at hp
  rcases hp with rfl | rfl | rfl
  all_goals
    exact ⟨rfl, rfl, _, rfl, enterSoftware_cpu rfl s, enterSoftware_ctl rfl s, enterSoftware_dbg rfl s,
      enterSoftware_ramHolds rfl, enterSoftware_cells rfl s⟩

end Sys2Proof.Machine
end

section
/-! SUPPORT. Where the stack frame of an interrupt entry lies (60_exceptions.md R467), said once for every entry that
pushes, whatever its frame. -/

namespace Sys2Proof.Machine

theorem maskFor_cpu_s (k : Interrupt) (s : State) : (maskFor k s).cpu.s = s.cpu.s := by cases k <;> rfl

section Pushed
variable {k : Interrupt} {frame : List Byte} {e : Bool} {s : State}
  (hpush : stackFrame k s = pushBytes .system frame (s.setE e))
include hpush

/-- Neither the masks nor the vector move S after the push. -/
theorem enterInterrupt_cpu_s : (enterInterrupt k s).cpu.s = s.cpu.s - BitVec.ofNat 16 frame.length := by
  have hmask : (enterInterrupt k s).cpu.s = (stackFrame k s).cpu.s := by
    rw [enterInterrupt_cpu]
    exact maskFor_cpu_s k _
  rw [hmask, hpush]
  exact pushBytes_sp .system frame (s.setE e)

/-- The window cells the vector read fills are not RAM, so they overwrite no byte of the frame. -/
theorem enterInterrupt_ramHolds (hw : s.mem.wf = true) (hl : frame.length ≤ 65536) :
    RamHolds (enterInterrupt k s) (s.cpu.s - BitVec.ofNat 16 frame.length) frame := by
  intro j b hj hram
  rw [enterInterrupt_cell (isIo_ram hram), hpush]
  exact pushBytes_ramHolds (k := .system) (s := s.setE e) hw hl j b hj hram

theorem enterInterrupt_cells :
    PlainCellsSameBut (Within (s.cpu.s - BitVec.ofNat 16 frame.length) frame.length) s (enterInterrupt k s) := by
  intro a ha hout
  rw [enterInterrupt_cell ha, hpush]
  exact pushBytes_cell (k := .system) (s := s.setE e) ha hout

end Pushed

/-- Settles O12: outside a CWAI wait FIRQ pushes the short frame and every other interrupt the full one. -/
theorem interruptFramesOnTheStack : Obligations.InterruptFramesOnTheStack := by
  intro s hw hwait
  have hshort := stackFrame_short hwait
  refine ⟨fun k hk => ?_, enterInterrupt_cpu_s hshort, enterInterrupt_ramHolds hshort hw (by simp [shortFrame]),
    enterInterrupt_cells hshort⟩
  have hfirq : k ≠ .firq := by
    rintro rfl
    exact absurd hk (by decide)
  have hfull := stackFrame_full (s := s) (by rw [hwait, Bool.false_and]) hfirq
  exact ⟨enterInterrupt_cpu_s hfull, enterInterrupt_ramHolds hfull hw (by simp [fullFrame]),
    enterInterrupt_cells hfull⟩

end Sys2Proof.Machine
end

section
/-! SUPPORT. The encoding (30_encoding.md): decoder and encoder undo each other, and what the decoder rejects. A row of
the opcode tables is said once to read back exactly what the encoder writes; the statements follow from the rows. -/

namespace Sys2Proof

-- Proofs are checked one after the other: those that wait for an earlier one would each hold a thread.
set_option Elab.async false

/-! ## Encode, then decode -/

open Laws in
/-- Every instruction round-trips, by the lemma on its mnemonic (Laws/PerInstr.lean). -/
theorem roundTrip : ∀ i : Instr, EncodeDecode.Statement i
  | .lda o => EncodeDecode.lda o | .ldb o => EncodeDecode.ldb o | .ldd o => EncodeDecode.ldd o
  | .ldx o => EncodeDecode.ldx o | .ldy o => EncodeDecode.ldy o | .ldu o => EncodeDecode.ldu o
  | .lds o => EncodeDecode.lds o | .sta o => EncodeDecode.sta o | .stb o => EncodeDecode.stb o
  | .std o => EncodeDecode.std o | .stx o => EncodeDecode.stx o | .sty o => EncodeDecode.sty o
  | .stu o => EncodeDecode.stu o | .sts o => EncodeDecode.sts o | .leax o => EncodeDecode.leax o
  | .leay o => EncodeDecode.leay o | .leas o => EncodeDecode.leas o | .leau o => EncodeDecode.leau o
  | .tfr o p => EncodeDecode.tfr o p | .exg o p => EncodeDecode.exg o p | .pshs o => EncodeDecode.pshs o
  | .puls o => EncodeDecode.puls o | .pshu o => EncodeDecode.pshu o | .pulu o => EncodeDecode.pulu o
  | .adda o => EncodeDecode.adda o | .addb o => EncodeDecode.addb o | .addd o => EncodeDecode.addd o
  | .adca o => EncodeDecode.adca o | .adcb o => EncodeDecode.adcb o | .suba o => EncodeDecode.suba o
  | .subb o => EncodeDecode.subb o | .subd o => EncodeDecode.subd o | .sbca o => EncodeDecode.sbca o
  | .sbcb o => EncodeDecode.sbcb o | .cmpa o => EncodeDecode.cmpa o | .cmpb o => EncodeDecode.cmpb o
  | .cmpd o => EncodeDecode.cmpd o | .cmpx o => EncodeDecode.cmpx o | .cmpy o => EncodeDecode.cmpy o
  | .cmpu o => EncodeDecode.cmpu o | .cmps o => EncodeDecode.cmps o | .nega => EncodeDecode.nega
  | .negb => EncodeDecode.negb | .neg o => EncodeDecode.neg o | .inca => EncodeDecode.inca
  | .incb => EncodeDecode.incb | .inc o => EncodeDecode.inc o | .deca => EncodeDecode.deca
  | .decb => EncodeDecode.decb | .dec o => EncodeDecode.dec o | .tsta => EncodeDecode.tsta
  | .tstb => EncodeDecode.tstb | .tst o => EncodeDecode.tst o | .clra => EncodeDecode.clra
  | .clrb => EncodeDecode.clrb | .clr o => EncodeDecode.clr o | .mul => EncodeDecode.mul | .daa => EncodeDecode.daa
  | .sex => EncodeDecode.sex | .abx => EncodeDecode.abx | .anda o => EncodeDecode.anda o
  | .andb o => EncodeDecode.andb o | .ora o => EncodeDecode.ora o | .orb o => EncodeDecode.orb o
  | .eora o => EncodeDecode.eora o | .eorb o => EncodeDecode.eorb o | .bita o => EncodeDecode.bita o
  | .bitb o => EncodeDecode.bitb o | .coma => EncodeDecode.coma | .comb => EncodeDecode.comb
  | .com o => EncodeDecode.com o | .andcc o => EncodeDecode.andcc o | .orcc o => EncodeDecode.orcc o
  | .asla => EncodeDecode.asla | .aslb => EncodeDecode.aslb | .asl o => EncodeDecode.asl o
  | .asra => EncodeDecode.asra | .asrb => EncodeDecode.asrb | .asr o => EncodeDecode.asr o
  | .lsra => EncodeDecode.lsra | .lsrb => EncodeDecode.lsrb | .lsr o => EncodeDecode.lsr o
  | .rola => EncodeDecode.rola | .rolb => EncodeDecode.rolb | .rol o => EncodeDecode.rol o
  | .rora => EncodeDecode.rora | .rorb => EncodeDecode.rorb | .ror o => EncodeDecode.ror o
  | .bra o => EncodeDecode.bra o | .brn o => EncodeDecode.brn o | .bhi o => EncodeDecode.bhi o
  | .bls o => EncodeDecode.bls o | .bcc o => EncodeDecode.bcc o | .bcs o => EncodeDecode.bcs o
  | .bne o => EncodeDecode.bne o | .beq o => EncodeDecode.beq o | .bvc o => EncodeDecode.bvc o
  | .bvs o => EncodeDecode.bvs o | .bpl o => EncodeDecode.bpl o | .bmi o => EncodeDecode.bmi o
  | .bge o => EncodeDecode.bge o | .blt o => EncodeDecode.blt o | .bgt o => EncodeDecode.bgt o
  | .ble o => EncodeDecode.ble o | .lbra o => EncodeDecode.lbra o | .lbrn o => EncodeDecode.lbrn o
  | .lbhi o => EncodeDecode.lbhi o | .lbls o => EncodeDecode.lbls o | .lbcc o => EncodeDecode.lbcc o
  | .lbcs o => EncodeDecode.lbcs o | .lbne o => EncodeDecode.lbne o | .lbeq o => EncodeDecode.lbeq o
  | .lbvc o => EncodeDecode.lbvc o | .lbvs o => EncodeDecode.lbvs o | .lbpl o => EncodeDecode.lbpl o
  | .lbmi o => EncodeDecode.lbmi o | .lbge o => EncodeDecode.lbge o | .lblt o => EncodeDecode.lblt o
  | .lbgt o => EncodeDecode.lbgt o | .lble o => EncodeDecode.lble o | .jmp o => EncodeDecode.jmp o
  | .jsr o => EncodeDecode.jsr o | .bsr o => EncodeDecode.bsr o | .lbsr o => EncodeDecode.lbsr o
  | .rts => EncodeDecode.rts | .nop => EncodeDecode.nop | .swi => EncodeDecode.swi | .swi2 => EncodeDecode.swi2
  | .swi3 => EncodeDecode.swi3 | .rti => EncodeDecode.rti | .cwai o => EncodeDecode.cwai o
  | .sync => EncodeDecode.sync

/-- Settles O1: the round trip of the instruction's mnemonic. -/
theorem decodingTheEncodingGivesTheInstruction : Obligations.DecodingTheEncodingGivesTheInstruction :=
  fun i rest h => roundTrip i h rest

/-! ## Decode, then encode -/

/-- A decoder in progress that has read `pre` ends only in a well-formed instruction whose encoding is what it has read
by then, and rejects for a postbyte only, which is the second or third byte (30_encoding.md R105). -/
def ReadsBack : List Byte → Parse Instr → Prop
  | pre, .done i => i.wf = true ∧ encode i = pre
  | pre, .reject c => c = .unresolvableMode ∧ pre.length ≤ 3
  | pre, .need k => ∀ b, ReadsBack (pre ++ [b]) (k b)

theorem ReadsBack.encode_run {p : Parse Instr} {pre bs rest : List Byte} {i : Instr} (h : ReadsBack pre p)
    (hr : runParse p bs = .instr i rest) : i.wf = true ∧ encode i ++ rest = pre ++ bs := by
  induction p generalizing pre bs with
  | done j =>
    simp only [runParse, Decoded.instr.injEq] at hr
    obtain ⟨rfl, rfl⟩ := hr
    exact ⟨h.1, by rw [h.2]⟩
  | reject c => simp [runParse] at hr
  | need k ih =>
    cases bs with
    | nil => simp [runParse] at hr
    | cons b bs => simpa using ih b (h b) hr

theorem ReadsBack.not_illegal {p : Parse Instr} {pre : List Byte} (h : ReadsBack pre p) (bs : List Byte) :
    runParse p bs ≠ .rejected .illegalOpcode := by
  induction p generalizing pre bs with
  | done j => simp [runParse]
  | reject c => simp [runParse, h.1]
  | need k ih =>
    cases bs with
    | nil => simp [runParse]
    | cons b bs => exact ih b (h b) bs

/-- A rejection is known after three bytes. -/
theorem ReadsBack.reject_early {p : Parse Instr} {pre bs : List Byte} {c : ExcCause} (h : ReadsBack pre p)
    (hr : runParse p bs = .rejected c) : ∃ n, pre.length + n ≤ 3 ∧ runParse p (bs.take n) = .rejected c := by
  induction p generalizing pre bs with
  | done j => simp [runParse] at hr
  | reject d => exact ⟨0, h.2, by simpa [runParse] using hr⟩
  | need k ih =>
    cases bs with
    | nil => simp [runParse] at hr
    | cons b bs =>
      obtain ⟨n, hn, hrun⟩ := ih b (h b) hr
      refine ⟨n + 1, ?_, hrun⟩
      simp only [List.length_append, List.length_singleton] at hn
      omega

theorem readsBack_done {pre : List Byte} {i : Instr} (h : i.wf = true ∧ encode i = pre) : ReadsBack pre (.done i) := h

theorem readsBack_byte {pre : List Byte} {mk : Byte → Instr}
    (h : ∀ v, (mk v).wf = true ∧ encode (mk v) = pre ++ [v]) : ReadsBack pre (parseByte mk) := h

theorem readsBack_word {pre : List Byte} {mk : Word → Instr}
    (h : ∀ w, (mk w).wf = true ∧ encode (mk w) = pre ++ [hi w, lo w]) : ReadsBack pre (parseWord mk) := by
  intro x y
  simpa [ReadsBack, Machine.hi_join, Machine.lo_join] using h (join x y)

theorem code_idxRegOf (rr : BitVec 2) : (idxRegOf rr).code = rr := by
  revert rr
  decide

theorem off5_postbyte (pb : Byte) (h : pb.getLsbD 7 = false) :
    (0#1 ++ pb.extractLsb' 5 2 ++ pb.extractLsb' 0 5 : BitVec 8) = pb := by
  revert pb
  decide

theorem sub_postbyte (pb : Byte) (h : pb.getLsbD 7 = true) :
    (1#1 ++ pb.extractLsb' 5 2 ++ BitVec.ofBool (pb.getLsbD 4) ++ pb.extractLsb' 0 4 : BitVec 8) = pb := by
  revert pb
  decide

/-- After a postbyte of form (b): the submode of its low bits, with its offset bytes (30_encoding.md R97). -/
theorem readsBack_submode {pre : List Byte} {mk : Indexed → Instr} {rr : IdxReg} {ind : Bool} {low : Nat}
    (hpre : pre.length ≤ 3)
    (h : ∀ m : Submode, m.code.toNat = low → (Indexed.sub rr ind m).wf = true →
      (mk (.sub rr ind m)).wf = true ∧ encode (mk (.sub rr ind m)) = pre ++ m.offsetBytes) :
    ReadsBack pre (parseSubmode mk rr ind low) := by
  have hdone (m : Submode) (hm : m.code.toNat = low) (hwf : (Indexed.sub rr ind m).wf = true)
      (hb : m.offsetBytes = []) : ReadsBack pre (.done (mk (.sub rr ind m))) :=
    readsBack_done (by simpa [hb] using h m hm hwf)
  unfold parseSubmode
  split
  case h_1 =>
    cases ind
    · exact hdone .postInc1 rfl rfl rfl
    · exact ⟨rfl, hpre⟩
  case h_3 =>
    cases ind
    · exact hdone .preDec1 rfl rfl rfl
    · exact ⟨rfl, hpre⟩
  case h_8 => exact readsBack_byte fun n => h (.off8 n) rfl rfl
  case h_9 => exact readsBack_word fun n => h (.off16 n) rfl rfl
  case h_11 => exact readsBack_byte fun n => h (.pc8 n) rfl rfl
  case h_12 => exact readsBack_word fun n => h (.pc16 n) rfl rfl
  case h_13 =>
    cases ind
    · exact ⟨rfl, hpre⟩
    · exact readsBack_word fun a => h (.extended a) rfl rfl
  case h_14 => exact ⟨rfl, hpre⟩
  all_goals exact hdone _ rfl rfl rfl

theorem readsBack_indexed {pre : List Byte} {mk : Indexed → Instr} (hpre : pre.length ≤ 2)
    (h : ∀ ix, ix.wf = true → (mk ix).wf = true ∧ encode (mk ix) = pre ++ encodeIndexed ix) :
    ReadsBack pre (parseIndexed mk) := by
  intro pb
  dsimp only
  split
  next h7 =>
    refine readsBack_submode (by simpa using Nat.lt_succ_of_le hpre) fun m hm hwf => ?_
    obtain ⟨hi, he⟩ := h _ hwf
    refine ⟨hi, ?_⟩
    rw [he, encodeIndexed, code_idxRegOf, BitVec.eq_of_toNat_eq hm, sub_postbyte pb h7]
    simp
  next h7 =>
    obtain ⟨hi, he⟩ := h (.off5 (idxRegOf (pb.extractLsb' 5 2)) (pb.extractLsb' 0 5)) rfl
    refine readsBack_done ⟨hi, ?_⟩
    rw [he, encodeIndexed, code_idxRegOf, off5_postbyte pb (by simpa using h7)]

theorem code_of_regOf {code : BitVec 4} {r : Reg} (h : regOf code = some r) : r.code = code := by
  revert code r
  decide

theorem pair_postbyte (pb : Byte) : (pb.extractLsb' 4 4 ++ pb.extractLsb' 0 4 : BitVec 8) = pb := by
  revert pb
  decide

theorem readsBack_regs {pre : List Byte} {mk : Reg → Reg → Instr} (hpre : pre.length ≤ 2)
    (h : ∀ r1 r2, (mk r1 r2).wf = true ∧ encode (mk r1 r2) = pre ++ [r1.code ++ r2.code]) :
    ReadsBack pre (parseRegs mk) := by
  intro pb
  dsimp only
  split
  next r1 r2 h1 h2 =>
    obtain ⟨hi, he⟩ := h r1 r2
    exact readsBack_done ⟨hi, by rw [he, code_of_regOf h1, code_of_regOf h2, pair_postbyte]⟩
  next => exact ⟨rfl, by simpa using Nat.lt_succ_of_le hpre⟩

/-! ## The rows of the opcode tables -/

/-- What an opcode leads to: no row, or an operand that is read back (30_encoding.md R94, R95, R96, R104). -/
def OpcodeRow (pre : List Byte) (p : Parse Instr) : Prop := p = .reject .illegalOpcode ∨ ReadsBack pre p

theorem row_none (pre : List Byte) : OpcodeRow pre (.reject .illegalOpcode) := .inl rfl

theorem row_done {pre : List Byte} {i : Instr} (h : i.wf = true ∧ encode i = pre) : OpcodeRow pre (.done i) := .inr h

theorem row_byte {pre : List Byte} {mk : Byte → Instr} (h : ∀ v, (mk v).wf = true ∧ encode (mk v) = pre ++ [v]) :
    OpcodeRow pre (parseByte mk) := .inr (readsBack_byte h)

theorem row_word {pre : List Byte} {mk : Word → Instr}
    (h : ∀ w, (mk w).wf = true ∧ encode (mk w) = pre ++ [hi w, lo w]) : OpcodeRow pre (parseWord mk) :=
  .inr (readsBack_word h)

theorem row_indexed {pre : List Byte} {mk : Indexed → Instr}
    (h : ∀ ix, ix.wf = true → (mk ix).wf = true ∧ encode (mk ix) = pre ++ encodeIndexed ix)
    (hpre : pre.length ≤ 2 := by simp) : OpcodeRow pre (parseIndexed mk) := .inr (readsBack_indexed hpre h)

theorem row_regs {pre : List Byte} {mk : Reg → Reg → Instr}
    (h : ∀ r1 r2, (mk r1 r2).wf = true ∧ encode (mk r1 r2) = pre ++ [r1.code ++ r2.code])
    (hpre : pre.length ≤ 2 := by simp) : OpcodeRow pre (parseRegs mk) := .inr (readsBack_regs hpre h)

theorem page1Row0_row (low : Nat) : OpcodeRow [BitVec.ofNat 8 (0x00 + low)] (page1Row0 low) := by
  unfold page1Row0
  split
  case h_13 => exact row_none _
  all_goals exact row_byte fun _ => ⟨rfl, rfl⟩

theorem page1Row1_row (low : Nat) : OpcodeRow [BitVec.ofNat 8 (0x10 + low)] (page1Row1 low) := by
  unfold page1Row1
  split
  case h_9 | h_10 => exact row_regs fun _ _ => ⟨rfl, rfl⟩
  case h_6 | h_7 => exact row_byte fun _ => ⟨rfl, rfl⟩
  case h_3 | h_4 => exact row_word fun _ => ⟨rfl, rfl⟩
  case h_11 => exact row_none _
  all_goals exact row_done ⟨rfl, rfl⟩

theorem page1Row2_row (low : Nat) : OpcodeRow [BitVec.ofNat 8 (0x20 + low)] (page1Row2 low) := by
  unfold page1Row2
  split
  case h_17 => exact row_none _
  all_goals exact row_byte fun _ => ⟨rfl, rfl⟩

theorem page1Row3_row (low : Nat) : OpcodeRow [BitVec.ofNat 8 (0x30 + low)] (page1Row3 low) := by
  unfold page1Row3
  split
  case h_1 | h_2 | h_3 | h_4 => exact row_indexed fun _ h => ⟨h, rfl⟩
  case h_9 | h_10 | h_11 | h_13 | h_14 => exact row_done ⟨rfl, rfl⟩
  case h_15 => exact row_none _
  all_goals exact row_byte fun _ => ⟨rfl, rfl⟩

theorem page1Row4_row (low : Nat) : OpcodeRow [BitVec.ofNat 8 (0x40 + low)] (page1Row4 low) := by
  unfold page1Row4
  split
  case h_12 => exact row_none _
  all_goals exact row_done ⟨rfl, rfl⟩

theorem page1Row5_row (low : Nat) : OpcodeRow [BitVec.ofNat 8 (0x50 + low)] (page1Row5 low) := by
  unfold page1Row5
  split
  case h_12 => exact row_none _
  all_goals exact row_done ⟨rfl, rfl⟩

theorem page1Row6_row (low : Nat) : OpcodeRow [BitVec.ofNat 8 (0x60 + low)] (page1Row6 low) := by
  unfold page1Row6
  split
  case h_13 => exact row_none _
  all_goals exact row_indexed fun _ h => ⟨h, rfl⟩

theorem page1Row7_row (low : Nat) : OpcodeRow [BitVec.ofNat 8 (0x70 + low)] (page1Row7 low) := by
  unfold page1Row7
  split
  case h_13 => exact row_none _
  all_goals exact row_word fun _ => ⟨rfl, rfl⟩

theorem page1Row8_row (low : Nat) : OpcodeRow [BitVec.ofNat 8 (0x80 + low)] (page1Row8 low) := by
  unfold page1Row8
  split
  case h_4 | h_12 | h_14 => exact row_word fun _ => ⟨rfl, rfl⟩
  case h_15 => exact row_none _
  all_goals exact row_byte fun _ => ⟨rfl, rfl⟩

theorem page1Row9_row (low : Nat) : OpcodeRow [BitVec.ofNat 8 (0x90 + low)] (page1Row9 low) := by
  unfold page1Row9
  split
  case h_17 => exact row_none _
  all_goals exact row_byte fun _ => ⟨rfl, rfl⟩

theorem page1RowA_row (low : Nat) : OpcodeRow [BitVec.ofNat 8 (0xA0 + low)] (page1RowA low) := by
  unfold page1RowA
  split
  case h_17 => exact row_none _
  all_goals exact row_indexed fun _ h => ⟨h, rfl⟩

theorem page1RowB_row (low : Nat) : OpcodeRow [BitVec.ofNat 8 (0xB0 + low)] (page1RowB low) := by
  unfold page1RowB
  split
  case h_17 => exact row_none _
  all_goals exact row_word fun _ => ⟨rfl, rfl⟩

theorem page1RowC_row (low : Nat) : OpcodeRow [BitVec.ofNat 8 (0xC0 + low)] (page1RowC low) := by
  unfold page1RowC
  split
  case h_4 | h_12 | h_13 => exact row_word fun _ => ⟨rfl, rfl⟩
  case h_14 => exact row_none _
  all_goals exact row_byte fun _ => ⟨rfl, rfl⟩

theorem page1RowD_row (low : Nat) : OpcodeRow [BitVec.ofNat 8 (0xD0 + low)] (page1RowD low) := by
  unfold page1RowD
  split
  case h_17 => exact row_none _
  all_goals exact row_byte fun _ => ⟨rfl, rfl⟩

theorem page1RowE_row (low : Nat) : OpcodeRow [BitVec.ofNat 8 (0xE0 + low)] (page1RowE low) := by
  unfold page1RowE
  split
  case h_17 => exact row_none _
  all_goals exact row_indexed fun _ h => ⟨h, rfl⟩

theorem page1RowF_row (low : Nat) : OpcodeRow [BitVec.ofNat 8 (0xF0 + low)] (page1RowF low) := by
  unfold page1RowF
  split
  case h_17 => exact row_none _
  all_goals exact row_word fun _ => ⟨rfl, rfl⟩

/-- An opcode of page 1 by its nibbles. -/
theorem row_of_nibbles {op : Byte} {r : Nat} {p : Parse Instr} (h : op.toNat / 16 = r)
    (hr : OpcodeRow [BitVec.ofNat 8 (16 * r + op.toNat % 16)] p) : OpcodeRow [op] p := by
  rwa [← h, Nat.div_add_mod, BitVec.ofNat_toNat, BitVec.setWidth_eq] at hr

/-- An opcode of page 2 or 3 by its value. -/
theorem row_of_toNat {pre op : Byte} {n : Nat} {p : Parse Instr} (h : op.toNat = n)
    (hr : OpcodeRow [pre, BitVec.ofNat 8 n] p) : OpcodeRow [pre, op] p := by
  rwa [← h, BitVec.ofNat_toNat, BitVec.setWidth_eq] at hr

theorem page1_row (op : Byte) : OpcodeRow [op] (page1 op) := by
  unfold page1
  split
  case h_1 h => exact row_of_nibbles h (page1Row0_row _)
  case h_2 h => exact row_of_nibbles h (page1Row1_row _)
  case h_3 h => exact row_of_nibbles h (page1Row2_row _)
  case h_4 h => exact row_of_nibbles h (page1Row3_row _)
  case h_5 h => exact row_of_nibbles h (page1Row4_row _)
  case h_6 h => exact row_of_nibbles h (page1Row5_row _)
  case h_7 h => exact row_of_nibbles h (page1Row6_row _)
  case h_8 h => exact row_of_nibbles h (page1Row7_row _)
  case h_9 h => exact row_of_nibbles h (page1Row8_row _)
  case h_10 h => exact row_of_nibbles h (page1Row9_row _)
  case h_11 h => exact row_of_nibbles h (page1RowA_row _)
  case h_12 h => exact row_of_nibbles h (page1RowB_row _)
  case h_13 h => exact row_of_nibbles h (page1RowC_row _)
  case h_14 h => exact row_of_nibbles h (page1RowD_row _)
  case h_15 h => exact row_of_nibbles h (page1RowE_row _)
  case h_16 h => exact row_of_nibbles h (page1RowF_row _)
  case h_17 => exact row_none _

theorem page2_row (op : Byte) : OpcodeRow [0x10, op] (page2 op) := by
  unfold page2
  split
  case h_20 hop | h_21 hop | h_22 hop | h_23 hop | h_33 hop | h_34 hop =>
    exact row_of_toNat hop (row_byte fun _ => ⟨rfl, rfl⟩)
  case h_24 hop | h_25 hop | h_26 hop | h_27 hop | h_35 hop | h_36 hop =>
    exact row_of_toNat hop (row_indexed fun _ h => ⟨h, rfl⟩)
  case h_16 hop => exact row_of_toNat hop (row_done ⟨rfl, rfl⟩)
  case h_39 => exact row_none _
  all_goals exact row_of_toNat ‹_› (row_word fun _ => ⟨rfl, rfl⟩)

theorem page3_row (op : Byte) : OpcodeRow [0x11, op] (page3 op) := by
  unfold page3
  split
  case h_4 hop | h_5 hop =>
    exact row_of_toNat hop (row_byte fun _ => ⟨rfl, rfl⟩)
  case h_6 hop | h_7 hop =>
    exact row_of_toNat hop (row_indexed fun _ h => ⟨h, rfl⟩)
  case h_1 hop => exact row_of_toNat hop (row_done ⟨rfl, rfl⟩)
  case h_10 => exact row_none _
  all_goals exact row_of_toNat ‹_› (row_word fun _ => ⟨rfl, rfl⟩)

theorem encode_of_row {p : Parse Instr} {pre bs rest : List Byte} {i : Instr} (h : OpcodeRow pre p)
    (hr : runParse p bs = .instr i rest) : i.wf = true ∧ encode i ++ rest = pre ++ bs := by
  obtain rfl | h := h
  · simp [runParse] at hr
  · exact h.encode_run hr

theorem decode_page1 {b : Byte} (h10 : b ≠ 0x10) (h11 : b ≠ 0x11) (bs : List Byte) :
    decode (b :: bs) = runParse (page1 b) bs := by
  change runParse (if b = 0x10 then _ else if b = 0x11 then _ else page1 b) bs = _
  rw [if_neg h10, if_neg h11]

theorem decode_page2 (b : Byte) (bs : List Byte) : decode (0x10 :: b :: bs) = runParse (page2 b) bs := rfl

theorem decode_page3 (b : Byte) (bs : List Byte) : decode (0x11 :: b :: bs) = runParse (page3 b) bs := rfl

/-- The decoder yields well-formed instructions, and the bytes it has read are the instruction's encoding. -/
theorem encode_of_decode {bs rest : List Byte} {i : Instr} (h : decode bs = .instr i rest) :
    i.wf = true ∧ encode i ++ rest = bs := by
  match bs with
  | [] => cases h
  | b :: bs =>
    by_cases h10 : b = 0x10
    · subst h10
      match bs with
      | [] => cases h
      | b :: bs => exact encode_of_row (page2_row b) h
    · by_cases h11 : b = 0x11
      · subst h11
        match bs with
        | [] => cases h
        | b :: bs => exact encode_of_row (page3_row b) h
      · exact encode_of_row (page1_row b) (decode_page1 h10 h11 bs ▸ h)

theorem encodeIndexed_length (ix : Indexed) : 1 ≤ (encodeIndexed ix).length ∧ (encodeIndexed ix).length ≤ 3 := by
  cases ix with
  | off5 rr n => simp [encodeIndexed]
  | sub rr ind m => cases m <;> simp [encodeIndexed, Submode.offsetBytes]

theorem encodeMem_length (d x e : Byte) (m : Mem) :
    1 ≤ (encodeMem d x e m).length ∧ (encodeMem d x e m).length ≤ 4 := by
  cases m with
  | direct d => simp [encodeMem]
  | extended a => simp [encodeMem]
  | indexed ix =>
    obtain ⟨h1, h3⟩ := encodeIndexed_length ix
    simp only [encodeMem, List.length_cons]
    omega

theorem encodeSrc8_length (i d x e : Byte) (o : Src8) :
    1 ≤ (encodeSrc8 i d x e o).length ∧ (encodeSrc8 i d x e o).length ≤ 4 := by
  cases o with
  | imm v => simp [encodeSrc8]
  | mem m => exact encodeMem_length d x e m

theorem encodeSrc16_length (i d x e : Byte) (o : Src16) :
    1 ≤ (encodeSrc16 i d x e o).length ∧ (encodeSrc16 i d x e o).length ≤ 4 := by
  cases o with
  | imm v => simp [encodeSrc16]
  | mem m => exact encodeMem_length d x e m

/-- An instruction is one to five bytes long (30_encoding.md R92). -/
theorem encode_length (i : Instr) : 1 ≤ (encode i).length ∧ (encode i).length ≤ 5 := by
  have hshort {n : Nat} (h : 1 ≤ n ∧ n ≤ 4) : 1 ≤ n ∧ n ≤ 5 := by omega
  have hpage {n : Nat} (h : 1 ≤ n ∧ n ≤ 4) : 1 ≤ n + 1 ∧ n + 1 ≤ 5 := by omega
  cases i with
  | lda o | ldb o | adda o | addb o | adca o | adcb o | suba o | subb o | sbca o | sbcb o | cmpa o | cmpb o
  | anda o | andb o | ora o | orb o | eora o | eorb o | bita o | bitb o =>
    exact hshort (encodeSrc8_length _ _ _ _ o)
  | ldd o | ldx o | ldu o | addd o | subd o | cmpx o =>
    exact hshort (encodeSrc16_length _ _ _ _ o)
  | ldy o | lds o | cmpd o | cmpy o | cmpu o | cmps o =>
    exact hpage (encodeSrc16_length _ _ _ _ o)
  | neg m | com m | lsr m | ror m | asr m | asl m | rol m | dec m | inc m | tst m | jmp m | clr m | sta m | stb m
  | std m | stx m | stu m | jsr m =>
    exact hshort (encodeMem_length _ _ _ m)
  | sty m | sts m =>
    exact hpage (encodeMem_length _ _ _ m)
  | leax ix | leay ix | leas ix | leau ix =>
    exact hpage ((encodeIndexed_length ix).imp id (Nat.le_succ_of_le ·))
  | _ => simp [encode]

/-- Settles O2: the opcode's row, and the lengths of the operands. -/
theorem decodedBytesAreTheEncoding : Obligations.DecodedBytesAreTheEncoding := by
  intro bs rest i h
  obtain ⟨hwf, henc⟩ := encode_of_decode h
  obtain ⟨hpos, hlen⟩ := encode_length i
  exact ⟨hwf, henc, hpos, hlen⟩

/-! ## Rejections -/

/-- The opcode has no row. -/
def isIllegal : Parse Instr → Bool
  | .reject .illegalOpcode => true
  | .reject .unresolvableMode | .done _ | .need _ => false

/-- Behind an opcode that has a row nothing is rejected as an illegal opcode. -/
theorem row_illegal_iff {p : Parse Instr} {pre : List Byte} (h : OpcodeRow pre p) (bs : List Byte) :
    runParse p bs = .rejected .illegalOpcode ↔ isIllegal p = true := by
  obtain rfl | h := h
  · simp [runParse, isIllegal]
  · refine ⟨fun hr => absurd hr (h.not_illegal bs), fun hp => ?_⟩
    cases p with
    | done i => cases hp
    | need k => cases hp
    | reject c => cases c <;> simp_all [isIllegal, runParse]

theorem page1_illegal (b : Byte) : b ≠ 0x10 → b ≠ 0x11 → (isIllegal (page1 b) = true ↔
    b.toNat ∈ [0x01, 0x02, 0x05, 0x0B, 0x14, 0x15, 0x18, 0x1B, 0x38, 0x3E, 0x41, 0x42, 0x45, 0x4B, 0x4E, 0x51, 0x52,
      0x55, 0x5B, 0x5E, 0x61, 0x62, 0x65, 0x6B, 0x71, 0x72, 0x75, 0x7B, 0x87, 0x8F, 0xC7, 0xCD, 0xCF]) := by
  revert b
  decide

theorem page2_illegal (b : Byte) : isIllegal (page2 b) = true ↔
    b.toNat ∉ [0x21, 0x22, 0x23, 0x24, 0x25, 0x26, 0x27, 0x28, 0x29, 0x2A, 0x2B, 0x2C, 0x2D, 0x2E, 0x2F, 0x3F, 0x83,
      0x8C, 0x8E, 0x93, 0x9C, 0x9E, 0x9F, 0xA3, 0xAC, 0xAE, 0xAF, 0xB3, 0xBC, 0xBE, 0xBF, 0xCE, 0xDE, 0xDF, 0xEE,
      0xEF, 0xFE, 0xFF] := by
  revert b
  decide

theorem page3_illegal (b : Byte) : isIllegal (page3 b) = true ↔
    b.toNat ∉ [0x3F, 0x83, 0x8C, 0x93, 0x9C, 0xA3, 0xAC, 0xB3, 0xBC] := by
  revert b
  decide

theorem row_reject_early {p : Parse Instr} {pre bs : List Byte} {c : ExcCause} (h : OpcodeRow pre p)
    (hpre : pre.length ≤ 3) (hr : runParse p bs = .rejected c) :
    ∃ n, pre.length + n ≤ 3 ∧ runParse p (bs.take n) = .rejected c := by
  obtain rfl | h := h
  · exact ⟨0, hpre, by simpa [runParse] using hr⟩
  · exact h.reject_early hr

/-- Whatever the decoder rejects it rejects within three bytes. -/
theorem decode_reject_early {bs : List Byte} {c : ExcCause} (h : decode bs = .rejected c) :
    ∃ n, n ≤ 3 ∧ decode (bs.take n) = .rejected c := by
  match bs with
  | [] => cases h
  | b :: bs =>
    by_cases h10 : b = 0x10
    · subst h10
      match bs with
      | [] => cases h
      | b :: bs =>
        obtain ⟨n, hn, hrun⟩ := row_reject_early (page2_row b) (by simp) h
        exact ⟨n + 2, by simp only [List.length_cons, List.length_nil] at hn; omega, hrun⟩
    · by_cases h11 : b = 0x11
      · subst h11
        match bs with
        | [] => cases h
        | b :: bs =>
          obtain ⟨n, hn, hrun⟩ := row_reject_early (page3_row b) (by simp) h
          exact ⟨n + 2, by simp only [List.length_cons, List.length_nil] at hn; omega, hrun⟩
      · obtain ⟨n, hn, hrun⟩ := row_reject_early (page1_row b) (by simp) (decode_page1 h10 h11 bs ▸ h)
        exact ⟨n + 1, by simp only [List.length_cons, List.length_nil] at hn; omega,
          (decode_page1 h10 h11 (bs.take n)).trans hrun⟩

/-- Settles O3: the opcode's row, and the table of the opcodes without one. -/
theorem illegalOpcodesAreExactly : Obligations.IllegalOpcodesAreExactly :=
  ⟨fun b rest h10 h11 =>
      (decode_page1 h10 h11 rest ▸ row_illegal_iff (page1_row b) rest).trans (page1_illegal b h10 h11),
    fun b rest => (row_illegal_iff (page2_row b) rest).trans (page2_illegal b),
    fun b rest => (row_illegal_iff (page3_row b) rest).trans (page3_illegal b)⟩

theorem parseByte_accepts (mk : Byte → Instr) (bs : List Byte) (c : ExcCause) :
    runParse (parseByte mk) bs ≠ .rejected c := by
  cases bs <;> simp [parseByte, runParse]

theorem parseWord_accepts (mk : Word → Instr) (bs : List Byte) (c : ExcCause) :
    runParse (parseWord mk) bs ≠ .rejected c := by
  match bs with
  | [] | [_] | _ :: _ :: _ => simp [parseWord, runParse]

/-- The submodes no operand has (30_encoding.md R105). -/
theorem parseSubmode_rejects (mk : Indexed → Instr) (rr : IdxReg) (ind : Bool) {low : Nat} (hlow : low < 16)
    (bs : List Byte) :
    runParse (parseSubmode mk rr ind low) bs = .rejected .unresolvableMode ↔
      low ∈ [7, 10, 14] ∨ ind = true ∧ low ∈ [0, 2] ∨ ind = false ∧ low = 15 := by
  interval_cases low <;> cases ind <;> simp [parseSubmode, runParse, parseByte_accepts, parseWord_accepts]

theorem parseIndexed_rejects (mk : Indexed → Instr) (pb : Byte) (bs : List Byte) :
    runParse (parseIndexed mk) (pb :: bs) = .rejected .unresolvableMode ↔
      128 ≤ pb.toNat ∧ (pb.toNat % 16 ∈ [7, 10, 14] ∨ pb.toNat % 32 ∈ [16, 18] ∨ pb.toNat % 32 = 15) := by
  have hfields : ∀ pb : Byte,
      (pb.getLsbD 7 = true ∧ ((pb.extractLsb' 0 4).toNat ∈ [7, 10, 14] ∨
        pb.getLsbD 4 = true ∧ (pb.extractLsb' 0 4).toNat ∈ [0, 2] ∨
        pb.getLsbD 4 = false ∧ (pb.extractLsb' 0 4).toNat = 15)) ↔
      128 ≤ pb.toNat ∧ (pb.toNat % 16 ∈ [7, 10, 14] ∨ pb.toNat % 32 ∈ [16, 18] ∨ pb.toNat % 32 = 15) := by
    decide
  rw [← hfields, parseIndexed, runParse]
  split
  next h7 => rw [parseSubmode_rejects _ _ _ (pb.extractLsb' 0 4).isLt, h7, eq_self, true_and]
  next h7 => exact iff_of_false nofun fun h => h7 h.1

theorem parseRegs_rejects (mk : Reg → Reg → Instr) (pb : Byte) (bs : List Byte) :
    runParse (parseRegs mk) (pb :: bs) = .rejected .unresolvableMode ↔
      pb.toNat / 16 ∈ [6, 7, 12, 13, 14, 15] ∨ pb.toNat % 16 ∈ [6, 7, 12, 13, 14, 15] := by
  have hcodes : ∀ pb : Byte, (regOf (pb.extractLsb' 4 4) = none ∨ regOf (pb.extractLsb' 0 4) = none) ↔
      pb.toNat / 16 ∈ [6, 7, 12, 13, 14, 15] ∨ pb.toNat % 16 ∈ [6, 7, 12, 13, 14, 15] := by
    decide
  rw [← hcodes, parseRegs, runParse]
  cases regOf (pb.extractLsb' 4 4) <;> cases regOf (pb.extractLsb' 0 4) <;> simp [runParse]

/-- Settles O4: each of the opcodes leads to `parseIndexed` or `parseRegs`. -/
theorem illegalPostbytesAreExactly : Obligations.IllegalPostbytesAreExactly := by
  constructor
  · intro op hop pb rest
    fin_cases hop <;> exact parseIndexed_rejects _ pb rest
  · intro op hop pb rest
    fin_cases hop
    · exact parseRegs_rejects .exg pb rest
    · exact parseRegs_rejects .tfr pb rest

/-- Settles O5: the decoder run on each word. -/
theorem specWordsDecode : Obligations.SpecWordsDecode := by
  unfold Obligations.SpecWordsDecode
  decide

end Sys2Proof
end

section
/-! SUPPORT. The step (60_exceptions.md R460..R472): what runs when, and the reset sequence. -/

namespace Sys2Proof.Machine

-- Proofs are checked one after the other: those that wait for an earlier one would each hold a thread.
set_option Elab.async false

/-- The decoder's answer on the bytes at PC is what the fetch gets, with PC past what it has read. -/
theorem executeNext_instr {s : State} {i : Instr} (hwf : i.wf = true) (h : BytesAt s s.cpu.pc (encode i)) :
    executeNext s = exec i (noteInstr i (encode i).length
      ((notePc s).setPC (s.cpu.pc + BitVec.ofNat 16 (encode i).length))) := by
  have hd : decode (encode i) = .instr i [] := by simpa using roundTrip i hwf []
  obtain ⟨k, hk, hf⟩ := fetchParse_instr (n := 0) (s := notePc s) (h.congr rfl) hd
  simp only [List.length_nil, Nat.add_zero] at hk
  rw [executeNext, hf, hk, Nat.zero_add]
  rfl

/-- Settles O6: a step that is ready fetches, and the fetch decodes the encoding. -/
theorem stepRunsTheDecodedInstruction : Obligations.StepRunsTheDecodedInstruction := by
  intro s i hready hwf hbytes
  rw [step_ready hready, executeNext_instr hwf hbytes]
  rfl

theorem BytesAt.take {s : State} {a : Word} {bs : List Byte} (h : BytesAt s a bs) (n : Nat) :
    BytesAt s a (bs.take n) := by
  induction bs generalizing a n with
  | nil => simpa using h
  | cons b bs ih =>
    cases n with
    | zero => trivial
    | succ n => exact ⟨h.1, h.2.1, ih h.2.2 n⟩

/-- A rejected fetch raises the exception, having read no more than three bytes. -/
theorem executeNext_rejected {s : State} {bs : List Byte} {c : ExcCause} (h : BytesAt s s.cpu.pc bs)
    (hd : decode bs = .rejected c) :
    ∃ k, k ≤ 3 ∧
      executeNext s = .next (raiseException c k ((notePc s).setPC (s.cpu.pc + BitVec.ofNat 16 k))) := by
  obtain ⟨n, hn, hn'⟩ := decode_reject_early hd
  obtain ⟨k, hk, hf⟩ := fetchParse_rejected (n := 0) (s := notePc s) ((h.take n).congr rfl) hn'
  have hlen := List.length_take_le n bs
  refine ⟨k, by omega, ?_⟩
  rw [executeNext, hf, Nat.zero_add]
  rfl

/-- What a step leaves as it is, every number of steps leaves as it is. -/
theorem run_fixed {M : Host.Core} {s : M.State} (h : M.step s = .next s) (n : Nat) : M.run n s = .next s := by
  induction n with
  | zero => rfl
  | succ n ih =>
    unfold Host.Core.run
    rw [h]
    exact ih

/-- EXCEPTION is sticky (60_exceptions.md R470). -/
theorem step_exception {s : State} (h : s.ctl.runState = .exception) (hr : s.ctl.resetIn = false) :
    step s = .next s := by
  simp [step, stepOnce, h, hr]

/-- Reset comes before all else, from every run state (60_exceptions.md R462). -/
theorem step_reset {s : State} (h : s.ctl.resetIn = true) : step s = .next (resetSequence s) := by
  simp [step, stepOnce, h]

theorem step_halt {s : State} (hr : s.ctl.resetIn = false) (he : s.ctl.runState ≠ .exception)
    (hh : s.ctl.haltIn = true) : step s = .next (haltSequence s) := by
  simp [step, stepOnce, hr, he, hh]

/-- Settles O7: the raised exception, whose PC is a free count of the bytes read; then the sticky run state. -/
theorem rejectedInstructionEndsInException : Obligations.RejectedInstructionEndsInException := by
  refine ⟨fun s bs c hready hbytes hd => ?_,
    fun s hs => ⟨fun hr n => run_fixed (M := core) (step_exception hs hr) n, fun hr => ?_⟩⟩
  · obtain ⟨k, hk, he⟩ := executeNext_rejected hbytes hd
    have hmod := Nat.mod_lt (Config.freeCount s.draws) (show 0 < k + 1 by omega)
    exact ⟨Config.freeCount s.draws % (k + 1), by omega, (step_ready hready).trans he⟩
  · exact ⟨_, step_reset hr, rfl⟩

/-- The reset vector is read through the window (60_exceptions.md R462, 46_dev_sam.md R356). -/
theorem memRead16_resetVector (s : State) :
    memRead16 0xFFFE s = (s.word 0xBFFE, (s.setCell 0xFFFE (s.cell 0xBFFE)).setCell 0xFFFF (s.cell 0xBFFF)) := by
  have h1 : cellKind 0xFFFE = .io .samVec := by decide
  have h2 : cellKind 0xFFFF = .io .samVec := by decide
  have hother : (s.setCell 0xFFFE (s.cell 0xBFFE)).cell 0xBFFF = s.cell 0xBFFF := State.cell_setCell_other (by decide)
  have e : (0xFFFE + 1 : Word) = 0xFFFF := by decide
  have e1 : vectorTarget 0xFFFE = 0xBFFE := by decide
  have e2 : vectorTarget 0xFFFF = 0xBFFF := by decide
  simp only [memRead16, e, read8, h1, h2, ioRead, samVecRead, e1, e2, hother]
  rfl

/-- Settles O8: the reset sequence is its vector read; a halt writes two fields. -/
theorem resetAndHaltSequences : Obligations.ResetAndHaltSequences := by
  intro s
  refine ⟨fun hr => ⟨_, step_reset hr, ?_⟩, fun hr he hh => step_halt hr he hh⟩
  rw [resetSequence, loadVector, memRead16_resetVector]
  refine ⟨rfl, rfl, rfl, ⟨rfl, rfl, rfl, rfl, rfl, rfl, rfl⟩, fun a h1 h2 => ?_⟩
  exact (State.cell_setCell_other h2).trans (State.cell_setCell_other h1)

/-- Steps 3 to 5 of a step, with no reset, halt or exception before them. -/
theorem step_run {s : State} (hr : s.ctl.resetIn = false) (hh : s.ctl.haltIn = false)
    (he : s.ctl.runState ≠ .exception) : step s = runStep s := by
  simp [step, stepOnce, hr, hh, he]

theorem step_interrupt {s : State} {k : Interrupt} (hr : s.ctl.resetIn = false) (hh : s.ctl.haltIn = false)
    (he : s.ctl.runState ≠ .exception) (hk : pendingInterrupt s = some k) :
    step s = executeNext (enterInterrupt k s) := by
  rw [step_run hr hh he, runStep, hk]

/-- Settles O9: the pending interrupt by its priority, then the waits. -/
theorem interruptsByPriorityAndWaits : Obligations.InterruptsByPriorityAndWaits := by
  intro s hr hh he
  dsimp only
  refine ⟨fun hn => ?_, fun hn hf => ?_, fun hn hf hi => ?_, fun hn hf hi => ?_⟩
  · exact step_interrupt hr hh he (if_pos hn)
  · exact step_interrupt hr hh he ((if_neg hn).trans (if_pos hf))
  · exact step_interrupt hr hh he ((if_neg hn).trans ((if_neg hf).trans (if_pos hi)))
  have hnone : pendingInterrupt s = none := (if_neg hn).trans ((if_neg hf).trans (if_neg hi))
  rw [step_run hr hh he, runStep, hnone]
  refine ⟨fun hs => if_neg hs, fun hs hw hl => ?_, fun hs hw => ?_⟩
  · have hwake : wakes s = true := by simpa [wakes, hw, lineAsserted, or_assoc] using hl
    exact (if_pos hs).trans (if_pos hwake)
  · have hwake : ¬ wakes s = true := by
      rintro h
      simp only [wakes, lineAsserted, Config.cwaiWakeOnMasked, Bool.or_false, Bool.and_eq_true,
        Bool.not_eq_true', Bool.or_eq_true, or_assoc] at h
      obtain hw | hw := hw
      · exact absurd hw (by simp [h.1])
      · exact hw h.2
    exact (if_pos hs).trans (if_neg hwake)

/-- Settles O10: no operation stops, as the lemmas on the ROM cells say of every step and instruction. -/
theorem everyStepHasANextState : Obligations.EveryStepHasANextState := by
  have hrom : cellKind 0x8000 = .rom := by decide
  exact ⟨fun s => (step_cell_rom hrom s).imp fun _ h => h.1, fun i s => (exec_cell_rom hrom i s).imp fun _ h => h.1⟩

/-- Settles O18: the reset state is a literal. -/
theorem resetStateHasTheInvariant : Obligations.ResetStateHasTheInvariant := by
  refine ⟨by decide, rfl, rfl, rfl, rfl, rfl, rfl, rfl, rfl, by decide, rfl, rfl, rfl⟩

end Sys2Proof.Machine
end

section
/-! SUPPORT. What an instruction is made of: register writes, draws, accesses of the fabric, and, where it arms the NMI
or adds cycles, those two. Every instruction is said once to be such a sequence; what all of these keep, every
instruction keeps. -/

namespace Sys2Proof.Machine

-- Proofs are checked one after the other: those that wait for an earlier one would each hold a thread.
set_option Elab.async false

/-- `t` comes from `s` by register writes, draws and accesses; `arms` and `ticks` tell whether the NMI has been armed
and cycles have been added on the way. -/
inductive Moves (s : State) : (arms ticks : Bool) → State → Prop
  | refl : Moves s false false s
  | regs {a c : Bool} {t : State} (h : Moves s a c t) (cpu : Regs) : Moves s a c { t with cpu := cpu }
  | draw {a c : Bool} {t : State} (h : Moves s a c t) : Moves s a c t.drawn
  | read {a c : Bool} {t : State} (h : Moves s a c t) (b : Word) : Moves s a c (read8 b t).2
  | write {a c : Bool} {t : State} (h : Moves s a c t) (b : Word) (v : Byte) : Moves s a c (write8 b v t)
  | arm {a c : Bool} {t : State} (h : Moves s a c t) : Moves s true c t.armNmi
  | tick {a c : Bool} {t : State} (h : Moves s a c t) (n : Nat) : Moves s a true (addCycles n t)

theorem Moves.cast {s t : State} {a b c : Bool} (h : Moves s a c t) (e : a = b) : Moves s b c t := e ▸ h

/-! ## The shared operations -/

section Operations
variable {s t : State} {a c : Bool} (h : Moves s a c t)
include h

theorem Moves.acc (r : Acc) (v : Byte) : Moves s a c (t.setAcc r v) := by
  cases r <;> exact h.regs _

theorem Moves.wide (r : Wide) (w : Word) : Moves s a c (t.setWide r w) := by
  cases r
  case d => exact (h.regs _).regs _
  all_goals exact h.regs _

theorem Moves.sp (k : Stack) (w : Word) : Moves s a c (t.setSP k w) := by
  cases k <;> exact h.regs _

theorem Moves.cc (v : CC) : Moves s a c (t.setCC v) := h.regs _

theorem Moves.pc (w : Word) : Moves s a c (t.setPC w) := h.regs _

theorem Moves.branch (taken : Bool) (off : Word) : Moves s a c (branchIf taken off t) := by
  cases taken
  · exact h
  · exact h.pc _

theorem Moves.auto (r : IdxReg) (m : Submode) : Moves s a c (autoUpdate r m t) := by
  cases m with
  | postInc1 | postInc2 | preDec1 | preDec2 => cases r <;> exact h.regs _
  | noOffset | offB | offA | off8 | off16 | offD | pc8 | pc16 | extended => exact h

theorem Moves.read16 (b : Word) : Moves s a c (memRead16 b t).2 := (h.read _).read _

theorem Moves.write16 (b w : Word) : Moves s a c (memWrite16 b w t) := (h.write _ _).write _ _

theorem Moves.eaIndexed (ix : Indexed) : Moves s a c (eaIndexed ix t).2 := by
  cases ix with
  | off5 r n => exact h
  | sub r ind m =>
    cases ind
    · exact h.auto r m
    · exact (h.auto r m).read16 _

theorem Moves.ea (m : Mem) : Moves s a c (ea m t).2 := by
  cases m with
  | direct | extended => exact h
  | indexed ix => exact h.eaIndexed ix

theorem Moves.operand8 (o : Src8) : Moves s a c (operand8 o t).2 := by
  cases o with
  | imm v => exact h
  | mem m => exact (h.ea m).read _

theorem Moves.operand16 (o : Src16) : Moves s a c (operand16 o t).2 := by
  cases o with
  | imm v => exact h
  | mem m => exact (h.ea m).read16 _

theorem Moves.push8 (k : Stack) (v : Byte) : Moves s a c (push8 k v t) := (h.sp k _).write _ _

theorem Moves.push16 (k : Stack) (w : Word) : Moves s a c (push16 k w t) := (h.push8 k _).push8 k _

theorem Moves.pushBytes (k : Stack) (bs : List Byte) : Moves s a c (pushBytes k bs t) := by
  induction bs with
  | nil => exact h
  | cons b bs ih => exact ih.push8 k b

theorem Moves.pushList (k : Stack) (list : Byte) : Moves s a c (pushList k list t) := by
  rw [pushList_eq]
  exact h.pushBytes k _

theorem Moves.pull8 (k : Stack) : Moves s a c (pull8 k t).2 := (h.read _).sp k _

theorem Moves.pull16 (k : Stack) : Moves s a c (pull16 k t).2 := (h.pull8 k).pull8 k

theorem Moves.pullCC (k : Stack) : Moves s a c (pullCC k t) := (h.pull8 k).regs _

theorem Moves.pullPC (k : Stack) : Moves s a c (pullPC k t) := (h.pull16 k).regs _

/-- Bit 6 of a pull arms the NMI where it loads S. -/
theorem Moves.pullOther (k : Stack) : Moves s (a || k == .user) c (pullOther k t) := by
  cases k
  · exact ((h.pull16 .system).regs _).cast (by simp)
  · exact ((h.pull16 .user).regs _).arm.cast (by simp)

theorem Moves.doIf {f : State → State} {x y : Bool} (hf : Moves s (a || x) c (f t)) :
    Moves s (a || x && y) c (doIf y f t) := by
  cases y
  · exact h.cast (by simp)
  · exact hf.cast (by simp)

theorem Moves.doIf_same {f : State → State} (hf : Moves s a c (f t)) (y : Bool) : Moves s a c (Machine.doIf y f t) := by
  cases y
  · exact h
  · exact hf

end Operations

theorem Moves.pullList {s t : State} {a c : Bool} (h : Moves s a c t) (k : Stack) (list : Byte) :
    Moves s (a || k == .user && list.getLsbD 6) c (pullList k list t) := by
  have h0 := h.doIf_same (h.pullCC k) (list.getLsbD 0)
  have h1 := h0.doIf_same (f := pullA k) ((h0.pull8 k).regs _) (list.getLsbD 1)
  have h2 := h1.doIf_same (f := pullB k) ((h1.pull8 k).regs _) (list.getLsbD 2)
  have h3 := h2.doIf_same (f := pullDP k) ((h2.pull8 k).regs _) (list.getLsbD 3)
  have h4 := h3.doIf_same (f := pullX k) ((h3.pull16 k).regs _) (list.getLsbD 4)
  have h5 := h4.doIf_same (f := pullY k) ((h4.pull16 k).regs _) (list.getLsbD 5)
  have h6 := h5.doIf (h5.pullOther k) (y := list.getLsbD 6)
  exact h6.doIf_same (h6.pullPC k) (list.getLsbD 7)

theorem Moves.regWrite16 {s t : State} {a c : Bool} (h : Moves s a c t) (r : Reg) (w : Word) :
    Moves s (a || r == .s) c (regWrite16 r w t) := by
  cases r
  case s => exact (h.regs _).arm.cast (by simp)
  case a | b | cc | dp => exact h.cast (by simp)
  all_goals exact (h.regs _).cast (by simp)

theorem Moves.regWrite8 {s t : State} {a c : Bool} (h : Moves s a c t) {r : Reg} (hr : isWideReg r = false)
    (v : Byte) : Moves s (a || r == .s) c (regWrite8 r v t) := by
  cases r
  case a | b | cc | dp => exact (h.regs _).cast (by simp)
  all_goals cases hr

theorem Moves.regWriteFree {s t : State} {a c : Bool} (h : Moves s a c t) (r : Reg) :
    Moves s (a || r == .s) c (regWriteFree r t) := by
  unfold Machine.regWriteFree
  dsimp only [State.drawWord]
  split
  · exact h.draw.regWrite16 r _
  next hr => exact h.draw.regWrite8 (by simpa using hr) _

theorem Moves.transfer (r1 r2 : Reg) (s : State) : Moves s (r2 == .s) false (transfer r1 r2 s) := by
  have h := Moves.refl (s := s)
  unfold Machine.transfer
  split
  next => exact (h.regWrite16 r2 _).cast (by simp)
  next h2 => exact (h.regWrite8 h2 _).cast (by simp)
  next => exact (h.regWriteFree r2).cast (by simp)

theorem Moves.exchange (r1 r2 : Reg) (s : State) : Moves s (r1 == .s || r2 == .s) false (exchange r1 r2 s) := by
  have h := Moves.refl (s := s)
  unfold Machine.exchange
  split
  next => exact ((h.regWrite16 r1 _).regWrite16 r2 _).cast (by simp)
  next h1 h2 => exact ((h.regWrite8 h1 _).regWrite8 h2 _).cast (by simp)
  next => exact ((h.regWriteFree r1).regWriteFree r2).cast (by simp)

/-! ## Instructions -/

/-- RTI adds the cycles of the full frame; no other instruction counts (70_reset_and_hazards.md R540). -/
def addsCycles : Instr → Bool
  | .rti => true
  | _ => false

/-- What an instruction writes last: the run state, by the software interrupts, CWAI and SYNC, and the mark of a CWAI
wait. -/
def finish : Instr → State → State
  | .swi, u | .swi2, u | .swi3, u => u.setRunState .exec
  | .cwai _, u => (u.setCwaiStacked true).setRunState .sync
  | .sync, u => u.setRunState .sync
  | _, u => u

theorem Moves.enterSoftware {k : Interrupt} (hk : k.isHardware = false) (s : State) :
    ∃ u, enterInterrupt k s = u.setRunState .exec ∧ Moves s false false u := by
  refine ⟨_, rfl, ?_⟩
  have hmask (t : State) (h : Moves s false false t) : Moves s false false (maskFor k t) := by
    cases k with
    | swi => exact h.cc _
    | swi2 | swi3 => exact h
    | nmi | firq | irq => cases hk
  rw [stackFrame_software hk]
  exact ((hmask _ ((Moves.refl.regs _).pushBytes _ _)).read16 _).pc _

theorem Moves.returnFromInterrupt (s : State) : Moves s false true (returnFromInterrupt s) := by
  have h : Moves s false false (Machine.pullCC .system s) := Moves.refl.pullCC _
  refine Moves.pullPC ?_ _
  split
  · exact ((h.pullList .system 0x7E).tick 9).cast (by simp)
  · exact h.tick 0

/-- Every instruction completes: moves, then what it writes last. One case per shape. -/
theorem exec_moves (i : Instr) (s : State) :
    ∃ u, exec i s = .next (finish i u) ∧ Moves s (armsNmi i) (addsCycles i) u := by
  have h := Moves.refl (s := s)
  cases i with
  | lda o | ldb o => exact ⟨_, rfl, ((h.operand8 o).acc _ _).cc _⟩
  | ldd o | ldx o | ldy o | ldu o => exact ⟨_, rfl, ((h.operand16 o).wide _ _).cc _⟩
  | lds o => exact ⟨_, rfl, (((h.operand16 o).wide _ _).cc _).arm⟩
  | sta m | stb m => exact ⟨_, rfl, ((h.ea m).write _ _).cc _⟩
  | std m | stx m | sty m | stu m | sts m => exact ⟨_, rfl, ((h.ea m).write16 _ _).cc _⟩
  | leax ix | leay ix => exact ⟨_, rfl, ((h.eaIndexed ix).wide _ _).cc _⟩
  | leas ix => exact ⟨_, rfl, ((h.eaIndexed ix).wide _ _).arm⟩
  | leau ix => exact ⟨_, rfl, (h.eaIndexed ix).wide _ _⟩
  | tfr r1 r2 => exact ⟨_, rfl, Moves.transfer r1 r2 s⟩
  | exg r1 r2 => exact ⟨_, rfl, Moves.exchange r1 r2 s⟩
  | pshs list | pshu list => exact ⟨_, rfl, h.pushList _ list⟩
  | puls list | pulu list => exact ⟨_, rfl, (h.pullList _ list).cast (by simp [armsNmi])⟩
  | adda o | addb o | adca o | adcb o | anda o | andb o | ora o | orb o | eora o | eorb o =>
    exact ⟨_, rfl, ((h.operand8 o).acc _ _).cc _⟩
  | bita o | bitb o => exact ⟨_, rfl, (h.operand8 o).cc _⟩
  | suba o | subb o | sbca o | sbcb o => exact ⟨_, rfl, ((h.operand8 o).draw.acc _ _).cc _⟩
  | cmpa o | cmpb o => exact ⟨_, rfl, (h.operand8 o).draw.cc _⟩
  | addd o | subd o => exact ⟨_, rfl, ((h.operand16 o).wide _ _).cc _⟩
  | cmpd o | cmpx o | cmpy o | cmpu o | cmps o => exact ⟨_, rfl, (h.operand16 o).cc _⟩
  | inca | incb | deca | decb | clra | clrb | daa | coma | comb | lsra | lsrb | rola | rolb | rora | rorb =>
    exact ⟨_, rfl, (h.acc _ _).cc _⟩
  | nega | negb | asla | aslb | asra | asrb => exact ⟨_, rfl, (h.draw.acc _ _).cc _⟩
  | inc m | dec m | com m | lsr m | rol m | ror m => exact ⟨_, rfl, (((h.ea m).read _).write _ _).cc _⟩
  | neg m | asl m | asr m => exact ⟨_, rfl, (((h.ea m).read _).draw.write _ _).cc _⟩
  | tst m => exact ⟨_, rfl, ((h.ea m).read _).cc _⟩
  | clr m => exact ⟨_, rfl, (((h.ea m).read _).write _ _).cc _⟩
  | tsta | tstb | andcc | orcc => exact ⟨_, rfl, h.cc _⟩
  | mul | sex => exact ⟨_, rfl, (h.wide .d _).cc _⟩
  | abx => exact ⟨_, rfl, h.regs _⟩
  | nop | sync => exact ⟨_, rfl, h⟩
  | bra | brn | bhi | bls | bcc | bcs | bne | beq | bvc | bvs | bpl | bmi | bge | blt | bgt | ble | lbra | lbrn
  | lbhi | lbls | lbcc | lbcs | lbne | lbeq | lbvc | lbvs | lbpl | lbmi | lbge | lblt | lbgt | lble =>
    exact ⟨_, rfl, h.branch _ _⟩
  | jmp m => exact ⟨_, rfl, (h.ea m).pc _⟩
  | jsr m => exact ⟨_, rfl, ((h.ea m).push16 _ _).pc _⟩
  | bsr | lbsr => exact ⟨_, rfl, (h.push16 _ _).pc _⟩
  | rts => exact ⟨_, rfl, h.pullPC _⟩
  | swi => exact (Moves.enterSoftware (k := .swi) rfl s).imp fun _ hu => ⟨congrArg _ hu.1, hu.2⟩
  | swi2 => exact (Moves.enterSoftware (k := .swi2) rfl s).imp fun _ hu => ⟨congrArg _ hu.1, hu.2⟩
  | swi3 => exact (Moves.enterSoftware (k := .swi3) rfl s).imp fun _ hu => ⟨congrArg _ hu.1, hu.2⟩
  | rti => exact ⟨_, rfl, Moves.returnFromInterrupt s⟩
  | cwai => exact ⟨_, rfl, (h.cc _).pushList _ _⟩

/-! ## The latches and the debug record -/

/-- An access can only drop IRQ. -/
theorem read8_irq {a : Word} {s : State} (h : (read8 a s).2.ctl.irqIn = true) : s.ctl.irqIn = true := by
  obtain e | e := read8_ctl a s
  · rwa [e] at h
  · rw [e] at h; cases h

/-- Moves touch no latch and no run state, but arm the NMI where they say so and may drop IRQ. -/
theorem Moves.ctl {s t : State} {a c : Bool} (h : Moves s a c t) :
    t.ctl = { s.ctl with irqIn := t.ctl.irqIn, nmiArmed := s.ctl.nmiArmed || a } ∧
      (t.ctl.irqIn = true → s.ctl.irqIn = true) := by
  induction h with
  | refl => exact ⟨by simp, id⟩
  | regs _ _ ih | draw _ ih | tick _ _ ih => exact ih
  | write _ b v ih => simpa using ih
  | arm _ ih =>
    obtain ⟨e, hirq⟩ := ih
    refine ⟨?_, hirq⟩
    rw [State.armNmi_ctl, e]
    simp
  | read _ b ih =>
    obtain ⟨e, hirq⟩ := ih
    refine ⟨?_, fun h => hirq (read8_irq h)⟩
    rename_i t _
    obtain e' | e' := read8_ctl b t
    all_goals
      rw [e', e]

/-- Moves leave the debug record, or of it all but the cycles. -/
theorem Moves.dbg {s t : State} {a c : Bool} (h : Moves s a c t) :
    t.dbg = { s.dbg with lastCycles := t.dbg.lastCycles } ∧
      (c = false → t.dbg.lastCycles = s.dbg.lastCycles) := by
  induction h with
  | refl => exact ⟨rfl, fun _ => rfl⟩
  | regs _ _ ih | draw _ ih | arm _ ih => exact ih
  | read _ b ih => simpa using ih
  | write _ b v ih => simpa using ih
  | tick _ n ih =>
    refine ⟨?_, nofun⟩
    rw [addCycles, ih.1]

theorem finish_ctl (i : Instr) (u : State) :
    (finish i u).ctl = { u.ctl with
      runState := (finish i u).ctl.runState, cwaiStacked := (finish i u).ctl.cwaiStacked } := by
  unfold finish
  split <;> rfl

theorem finish_dbg (i : Instr) (u : State) : (finish i u).dbg = u.dbg := by
  unfold finish
  split <;> rfl

/-- Settles O20: an instruction is moves, and what it writes last is no latch. -/
theorem whatInstructionsDoToTheLatches : Obligations.WhatInstructionsDoToTheLatches := by
  intro i s t ht
  obtain ⟨u, hu, hm⟩ := exec_moves i s
  rw [hu] at ht
  cases ht
  obtain ⟨hctl, hirq⟩ := hm.ctl
  obtain ⟨hdbg, hcycles⟩ := hm.dbg
  have hticks (h : i ≠ .rti) : addsCycles i = false := by
    unfold addsCycles
    split
    · exact absurd rfl h
    · rfl
  rw [finish_ctl, finish_dbg]
  refine ⟨?_, ?_, ?_, ?_, ?_, hirq, ?_, ?_, ?_, fun h => hcycles (hticks h)⟩
  · exact (congrArg Control.nmiArmed hctl :)
  · exact (congrArg Control.haltIn hctl :)
  · exact (congrArg Control.resetIn hctl :)
  · exact (congrArg Control.firqIn hctl :)
  · exact (congrArg Control.nmiLatch hctl :)
  · exact (congrArg Debug.lastPc hdbg :)
  · exact (congrArg Debug.lastBytes hdbg :)
  · exact (congrArg Debug.excCause hdbg :)

end Sys2Proof.Machine
end

section
/-! SUPPORT. The invariant: the devices keep their own part in every access, the CPU its part in every instruction. -/

namespace Sys2Proof.Machine

-- Proofs are checked one after the other: those that wait for an earlier one would each hold a thread.
set_option Elab.async false

/-! ## The cassette generator -/

theorem nextCasByte_sound {p : Pia1} (h : p.casPos ≤ (p.casFile.getD []).length) :
    ∃ pos, (nextCasByte p).2 = { p with casPos := pos } ∧ pos ≤ (p.casFile.getD []).length := by
  unfold nextCasByte
  split
  next => exact ⟨p.casPos, rfl, h⟩
  next file hf =>
    split
    next b hb => exact ⟨_, rfl, by simpa [hf] using (List.getElem?_eq_some_iff.mp hb).1⟩
    next => exact ⟨p.casPos, rfl, h⟩

/-- A refill by its parts: the byte taken and the position after it. -/
theorem casRefill_eq (p : Pia1) : casRefill p =
    if p.casBitsLeft = 0 then
      { (nextCasByte p).2 with
        casOctet := (nextCasByte p).1, casBitsLeft := 9, casThreshold := casThresholdOf (nextCasByte p).1 }
    else p := rfl

/-- After a refill the generator is in an octet (49_dev_pia1.md R433). -/
theorem casRefill_sound {p : Pia1} (h : CassetteSound p) :
    CassetteSound (casRefill p) ∧ (casRefill p).casBitsLeft ≠ 0 := by
  obtain ⟨hthr, hphase, hbits, hstart, hpos⟩ := h
  rw [casRefill_eq]
  split
  next hb =>
    obtain ⟨pos, hp, hpos'⟩ := nextCasByte_sound hpos
    have ht (b : Byte) : casThresholdOf b = 4 ∨ casThresholdOf b = 20 := by unfold casThresholdOf; split <;> simp
    refine ⟨⟨ht _, ?_, Nat.le_refl 9, nofun, ?_⟩, by simp⟩
    · rw [hp]
      show p.casPhase < 2 * casThresholdOf (nextCasByte p).1
      have := ht (nextCasByte p).1
      have := hstart hb
      omega
    · rw [hp]
      exact hpos'
  next hb => exact ⟨⟨hthr, hphase, hbits, hstart, hpos⟩, hb⟩

/-- A sample and the move to the next bit (49_dev_pia1.md R433). -/
theorem casAdvance_sound {p : Pia1} (h : CassetteSound p) (hb : p.casBitsLeft ≠ 0) :
    CassetteSound (casAdvance (casSample p)) := by
  obtain ⟨hthr, hphase, hbits, -, hpos⟩ := h
  unfold casAdvance
  split
  next =>
    have ht (c : Prop) [Decidable c] (b : Byte) : (if c then p.casThreshold else casThresholdOf b) = 4 ∨
        (if c then p.casThreshold else casThresholdOf b) = 20 := by
      unfold casThresholdOf
      split
      · exact hthr
      · split <;> simp
    refine ⟨ht _ _, ?_, Nat.le_trans (Nat.sub_le _ _) hbits, fun _ => rfl, hpos⟩
    have := ht (p.casBitsLeft - 1 = 0) (p.casOctet >>> 1)
    show 0 < 2 * (if p.casBitsLeft - 1 = 0 then p.casThreshold else casThresholdOf (p.casOctet >>> 1))
    omega
  next hne =>
    refine ⟨hthr, ?_, hbits, fun h => absurd h hb, hpos⟩
    have : p.casPhase + 1 ≠ 2 * p.casThreshold := hne
    show p.casPhase + 1 < 2 * p.casThreshold
    omega

/-! ## Accesses -/

/-- The part of the invariant that speaks of memory and devices. -/
def DevicesSound (s : State) : Prop :=
  s.mem.wf = true ∧ VdgCoherent s.sam s.vdg ∧ s.pia0.fkey ≤ 10 ∧ CassetteSound s.pia1

/-- Reading PIA1's port A is what moves the cassette; no other read touches PIA1. -/
theorem read8_pia1 (a : Word) (s : State) :
    (read8 a s).2.pia1 = s.pia1 ∨ (read8 a s).2.pia1 = casAdvance (casSample (casRefill s.pia1)) := by
  unfold read8
  split
  · exact .inl rfl
  · exact .inl rfl
  · rename_i p _
    cases p
    case pia1Pa => exact .inr rfl
    all_goals
      exact .inl (by simp [ioRead, pia0PaRead, pia0PbRead, samCtlRead, samVecRead, State.drawByte, joystkComp_same,
        rjoystkButton_same])

theorem read8_sound {s : State} (h : DevicesSound s) (a : Word) : DevicesSound (read8 a s).2 := by
  obtain ⟨hmem, hvdg, hkey, hcas⟩ := h
  refine ⟨read8_wf hmem a, by simpa using hvdg, by simpa using hkey, ?_⟩
  obtain e | e := read8_pia1 a s
  · rwa [e]
  · rw [e]
    exact casAdvance_sound (casRefill_sound hcas).1 (casRefill_sound hcas).2

/-- A key event latches F1 to F10 as 1 to 10 (48_dev_pia0.md R405). -/
theorem keyEvent_fkey {p : Pia0} (h : p.fkey ≤ 10) (e : Byte) : (keyEvent e p).fkey ≤ 10 := by
  unfold keyEvent
  dsimp only
  split
  · exact h
  split
  next hcode =>
    split
    · exact h
    · show (e &&& 0x7F).toNat - 58 ≤ 10
      omega
  split
  · exact h
  · exact h

theorem audioMux_sound {s : State} (h : DevicesSound s) (bit : Nat) (v : Byte) :
    DevicesSound (audioMuxPattern bit v s) := by
  unfold audioMuxPattern
  dsimp only
  split
  · exact h
  split
  · exact h
  · exact h

theorem ioWrite_sound {s : State} (h : DevicesSound s) (p : IoPort) (a : Word) (v : Byte) :
    DevicesSound (ioWrite p a v s) := by
  obtain ⟨hmem, ⟨hmode, hoff, hbase, hcomp⟩, hkey, hcas⟩ := h
  cases p with
  | pia0Pa | samVec | pia0Crb | pia1Pa => exact ⟨hmem, ⟨hmode, hoff, hbase, hcomp⟩, hkey, hcas⟩
  | pia0Cra => exact audioMux_sound ⟨hmem, ⟨hmode, hoff, hbase, hcomp⟩, hkey, hcas⟩ 0 v
  | pia1Crb => exact audioMux_sound ⟨hmem, ⟨hmode, hoff, hbase, hcomp⟩, hkey, hcas⟩ 1 v
  | pia1Pb => exact ⟨hmem, ⟨hmode, hoff, hbase, rfl⟩, hkey, hcas⟩
  | samCtl => exact ⟨hmem, ⟨rfl, rfl, rfl, rfl⟩, hkey, hcas⟩
  | pia0Pb =>
    simp only [DevicesSound, ioWrite, pia0PbWrite, State.setCell_mem, State.setCell_sam, State.setCell_vdg,
      State.setCell_pia0, State.setCell_pia1, joystkComp_same, keyboardRead_same]
    exact ⟨Memory.wf_write hmem (by decide), ⟨hmode, hoff, hbase, hcomp⟩, keyEvent_fkey hkey _, hcas⟩
  | pia1Cra =>
    refine ⟨hmem, ⟨hmode, hoff, hbase, hcomp⟩, hkey, ?_⟩
    obtain ⟨hthr, hphase, hbits, hstart, hpos⟩ := hcas
    simp only [ioWrite, pia1CraWrite]
    split
    · refine ⟨hthr, ?_, Nat.zero_le _, fun _ => rfl, Nat.zero_le _⟩
      show 0 < 2 * s.pia1.casThreshold
      omega
    · exact ⟨hthr, hphase, hbits, hstart, hpos⟩

theorem write8_sound {s : State} (h : DevicesSound s) (a : Word) (v : Byte) : DevicesSound (write8 a v s) := by
  have hset : DevicesSound (s.setCell a v) := ⟨State.wf_setCell h.1, h.2⟩
  unfold write8
  split
  · exact hset
  · exact h
  · exact ioWrite_sound hset _ a v

theorem Moves.devicesSound {s t : State} {a c : Bool} (h : Moves s a c t) (hs : DevicesSound s) : DevicesSound t := by
  induction h with
  | refl => exact hs
  | regs _ _ ih | draw _ ih | arm _ ih | tick _ _ ih => exact ih
  | read _ b ih => exact read8_sound ih b
  | write _ b v ih => exact write8_sound ih b v

/-! ## Instructions and steps -/

theorem finish_devicesSound {i : Instr} {u : State} (h : DevicesSound u) : DevicesSound (finish i u) := by
  unfold finish
  split <;> exact h

/-- An instruction leaves a running machine running, or in a wait that only CWAI marks. -/
theorem finish_phase {i : Instr} {u : State} (hr : u.ctl.runState = .exec) (hc : u.ctl.cwaiStacked = false) :
    ((finish i u).ctl.cwaiStacked = true → (finish i u).ctl.runState = .sync) ∧
      (finish i u).ctl.runState ≠ .exception := by
  unfold finish
  split <;> simp [hr, hc]

theorem Moves.fetch8 {s t : State} {a c : Bool} (h : Moves s a c t) : Moves s a c (fetch8 t).2 := (h.read _).pc _

theorem Moves.fetchParse {s t : State} {a c : Bool} (h : Moves s a c t) (p : Parse Instr) (n : Nat) :
    Moves s a c (fetchParse p n t).state := by
  induction p generalizing n t with
  | done i => exact h
  | reject e => exact h
  | need k ih => exact ih _ h.fetch8 _

/-- Fetch and execution, from a state outside a CWAI wait. -/
theorem executeNext_inv {s t : State} (hs : DevicesSound s) (hc : s.ctl.cwaiStacked = false)
    (ht : executeNext s = .next t) : Inv t := by
  have hf := (Moves.refl (s := notePc s)).fetchParse parseInstr 0
  have hfs := hf.devicesSound hs
  have hfc := congrArg Control.cwaiStacked hf.ctl.1
  unfold executeNext at ht
  split at ht
  next i n u hu =>
    rw [hu] at hfs hfc
    obtain ⟨v, hv, hm⟩ := exec_moves i (noteInstr i n u)
    rw [hv] at ht
    cases ht
    obtain ⟨hmem, hvdg, hkey, hcas⟩ := finish_devicesSound (i := i) (hm.devicesSound hfs)
    obtain ⟨hwait, hexc⟩ := finish_phase (i := i) (u := v) (congrArg Control.runState hm.ctl.1)
      ((congrArg Control.cwaiStacked hm.ctl.1).trans (hfc.trans hc))
    exact ⟨hmem, hwait, fun h => absurd h hexc, hvdg, hkey, hcas⟩
  next c n u hu =>
    rw [hu] at hfs hfc
    cases ht
    obtain ⟨hmem, hvdg, hkey, hcas⟩ := hfs
    exact ⟨hmem, fun h => absurd (h.symm.trans (hfc.trans hc)) (by decide), nofun, hvdg, hkey, hcas⟩

theorem loadVector_sound {s : State} (h : DevicesSound s) (v : Word) : DevicesSound (loadVector v s) :=
  ((Moves.refl.read16 v).pc _).devicesSound h

theorem enterInterrupt_sound {s : State} (h : DevicesSound s) (k : Interrupt) :
    DevicesSound (enterInterrupt k s) := by
  have hstack : DevicesSound (stackFrame k s) := by
    unfold stackFrame
    split
    · exact h
    split
    · exact ((Moves.refl.regs _).pushList _ _).devicesSound h
    · exact ((Moves.refl.regs _).pushList _ _).devicesSound h
  have hmask : DevicesSound (maskFor k (stackFrame k s)) := by cases k <;> exact hstack
  exact loadVector_sound hmask _

theorem pendingInterrupt_hardware {s : State} {k : Interrupt} (h : pendingInterrupt s = some k) :
    k.isHardware = true := by
  unfold pendingInterrupt at h
  split at h
  · cases h; rfl
  split at h
  · cases h; rfl
  split at h
  · cases h; rfl
  · cases h

/-- The entry of a hardware interrupt ends a CWAI wait. -/
theorem enterInterrupt_ends_wait {k : Interrupt} (hk : k.isHardware = true) (s : State) :
    (enterInterrupt k s).ctl.cwaiStacked = false := by
  have hmask (t : State) : (maskFor k t).ctl.cwaiStacked = t.ctl.cwaiStacked := by cases k <;> rfl
  rw [enterInterrupt_ctl]
  refine (hmask _).trans ?_
  unfold stackFrame
  split
  · rfl
  next hw =>
    have hw' : s.ctl.cwaiStacked = false := by simpa [hk] using hw
    split
    · rw [pushList_eq, pushBytes_ctl]; exact hw'
    · rw [pushFullFrame, pushList_eq, pushBytes_ctl]; exact hw'

/-- Steps 3 to 5 keep the invariant: whatever is executed next is executed outside a CWAI wait. -/
theorem runStep_inv {s t : State} (hs : Inv s) (ht : runStep s = .next t) : Inv t := by
  obtain ⟨hmem, hwait, hexc, hvdg, hkey, hcas⟩ := hs
  have hdev : DevicesSound s := ⟨hmem, hvdg, hkey, hcas⟩
  unfold runStep at ht
  split at ht
  next k hk =>
    exact executeNext_inv (enterInterrupt_sound hdev k) (enterInterrupt_ends_wait (pendingInterrupt_hardware hk) s) ht
  next =>
    split at ht
    next hsync =>
      split at ht
      next hwake =>
        have hc : s.ctl.cwaiStacked = false := by
          simp only [wakes, Config.cwaiWakeOnMasked, Bool.or_false, Bool.and_eq_true, Bool.not_eq_true'] at hwake
          exact hwake.1
        exact executeNext_inv (s := s.setRunState .exec) hdev hc ht
      next =>
        cases ht
        exact ⟨hmem, hwait, hexc, hvdg, hkey, hcas⟩
    next hsync => exact executeNext_inv hdev (by simpa using mt hwait hsync) ht

theorem resetSequence_sound {s : State} (h : DevicesSound s) : DevicesSound (resetSequence s) :=
  loadVector_sound (by exact h) 0xFFFE

theorem resetSequence_ends_wait (s : State) : (resetSequence s).ctl.cwaiStacked = false :=
  memRead16_cwaiStacked 0xFFFE _

/-- Settles O17: EXCEPTION, reset and halt by themselves, all else by `runStep`. -/
theorem everyStepKeepsTheInvariant : Obligations.EveryStepKeepsTheInvariant := by
  intro s t hs ht
  obtain ⟨hmem, hwait, hexc, hvdg, hkey, hcas⟩ := id hs
  unfold step stepOnce at ht
  split at ht
  · cases ht
    exact hs
  split at ht
  · cases ht
    obtain ⟨hmem, hvdg, hkey, hcas⟩ := resetSequence_sound ⟨hmem, hvdg, hkey, hcas⟩
    exact ⟨hmem, fun h => absurd ((resetSequence_ends_wait s).symm.trans h) (by decide), nofun, hvdg, hkey, hcas⟩
  split at ht
  · cases ht
    exact ⟨hmem, nofun, nofun, hvdg, hkey, hcas⟩
  · exact runStep_inv hs ht

end Sys2Proof.Machine
end

section
/-! SUPPORT. Pushes and pulls of register lists (41_load_store_transfer.md R172..R176). A pull is said once per width:
from cells without a callback a listed register takes its bytes and the pointer moves past them. -/

namespace Sys2Proof.Machine

-- Proofs are checked one after the other: those that wait for an earlier one would each hold a thread.
set_option Elab.async false

/-! ## Pushes -/

theorem listImage_length (k : Stack) (list : Byte) (s : State) : (listImage k list s).length = listBytes list := by
  simp [listImage, listBytes, apply_ite List.length, Nat.add_assoc]

theorem listBytes_le (list : Byte) : listBytes list ≤ 12 := by
  revert list
  decide

/-- Settles O42: a push of a list is a push of its image. -/
theorem pushListResult : Obligations.PushListResult := by
  intro p hp list s
  have himage := listImage_length p.2.1 list s
  have hle := listBytes_le list
  have hexec : encode (p.1 list) = [p.2.2, list] ∧ exec (p.1 list) s = .next (pushList p.2.1 list s) := by
    simp only [List.mem_cons, List.not_mem_nil, or_false] at hp
    obtain rfl | rfl := hp <;> exact ⟨rfl, rfl⟩
  refine ⟨hexec.1, hle, himage, _, hexec.2, ?_⟩
  rw [pushList_eq, ← himage]
  exact ⟨pushBytes_cpu _ _ s, pushBytes_ctl _ _ s, pushBytes_dbg _ _ s,
    fun hw => pushBytes_ramHolds hw (by omega), fun a ha hout => pushBytes_cell ha hout⟩

/-! ## Where a pull finds its registers -/

/-- Bytes the register of bit `n` takes (41_load_store_transfer.md R172). -/
def slotBytes (n : Nat) : Nat := if n < 4 then 1 else 2

theorem listBytes_succ (list : Byte) (n : Fin 8) :
    listBytes (list &&& BitVec.ofNat 8 (2 ^ (n.val + 1) - 1)) =
      listBytes (list &&& BitVec.ofNat 8 (2 ^ n.val - 1)) + if list.getLsbD n then slotBytes n else 0 := by
  fin_cases n <;> simp [listBytes, slotBytes]

theorem pullOffset_succ (list : Byte) (n : Fin 8) :
    pullOffset list (n + 1) = pullOffset list n + if list.getLsbD n then BitVec.ofNat 16 (slotBytes n) else 0 := by
  rw [pullOffset, listBytes_succ, BitVec.ofNat_add, pullOffset, apply_ite (BitVec.ofNat 16)]
  rfl

theorem pullOffset_all (list : Byte) : pullOffset list 8 = BitVec.ofNat 16 (listBytes list) := by
  have e : list &&& BitVec.ofNat 8 (2 ^ 8 - 1) = list := BitVec.and_allOnes
  rw [pullOffset, e]

theorem pullOffset_zero (list : Byte) : pullOffset list 0 = 0 := by
  have e : list &&& BitVec.ofNat 8 (2 ^ 0 - 1) = 0 := BitVec.and_zero
  rw [pullOffset, e]
  rfl

/-- A listed register lies within the bytes of the list. -/
theorem pullOffset_within (list : Byte) (n : Fin 8) (h : list.getLsbD n = true) :
    ∃ m, m + slotBytes n ≤ listBytes list ∧ pullOffset list n = BitVec.ofNat 16 m := by
  refine ⟨_, ?_, rfl⟩
  fin_cases n <;> simp_all [listBytes, slotBytes] <;> omega

theorem State.setSP_sp (s : State) (k : Stack) : s.setSP k (s.sp k) = s := by cases k <;> rfl

/-- Two cells without a callback: the word there, and only the pointer moves. -/
theorem pull16_plain {k : Stack} {s : State} (h1 : isIo (s.sp k) = false) (h2 : isIo (s.sp k + 1) = false) :
    pull16 k s = (s.word (s.sp k), s.setSP k (s.sp k + 2)) := by
  have e : s.sp k + 1 + 1 = s.sp k + 2 := by bv_omega
  simp only [pull16, pull8_plain h1, pull8_plain (k := k) (s := s.setSP k (s.sp k + 1)) (by simpa using h2),
    State.sp_setSP, State.setSP_setSP, State.setSP_cell, State.word, e]

/-! ## One register of a pull -/

/-- The NMI armed where the condition holds. -/
def armIf (b : Bool) (s : State) : State := { s with ctl := { s.ctl with nmiArmed := s.ctl.nmiArmed || b } }

theorem armIf_false (s : State) : armIf false s = s := by simp [armIf]

theorem armIf_true (s : State) : armIf true s = s.armNmi := by simp [armIf, State.armNmi]

/-- The pull of the other stack pointer, before PULU of S arms the NMI. -/
def pullOtherUnarmed (k : Stack) (s : State) : State := (pull16 k s).2.setSP k.other (pull16 k s).1

/-- `pullOther` pulls the pointer, and from the user stack arms the NMI. -/
theorem doIf_pullOther_eq_armIf (b : Bool) (k : Stack) (s : State) :
    doIf b (pullOther k) s = armIf (k == .user && b) (doIf b (pullOtherUnarmed k) s) := by
  cases b
  · rw [Bool.and_false]; exact (armIf_false s).symm
  · cases k
    · exact (armIf_false _).symm
    · exact (armIf_true _).symm

section Slots
variable {k : Stack} {list : Byte} {sp : Word} (hplain : PlainSpan sp (listBytes list)) {f : State → State} {t : State}
include hplain

/-- A byte register of a list, in its place or left out. -/
theorem doIf_pull8 {set : State → Byte → State} {get : State → Byte} {n : Nat} (h8 : n < 8) (hn : slotBytes n = 1)
    (hf : ∀ t, f t = set (pull8 k t).2 (pull8 k t).1) (hset : ∀ t w v, set (t.setSP k w) v = (set t v).setSP k w)
    (hget : ∀ t, set t (get t) = t) (hsp : t.sp k = sp + pullOffset list n) :
    doIf (list.getLsbD n) f t =
      (set t (if list.getLsbD n then t.cell (sp + pullOffset list n) else get t)).setSP k
        (sp + pullOffset list (n + 1)) := by
  rw [pullOffset_succ list ⟨n, h8⟩]
  cases hb : list.getLsbD n
  · simp [doIf, hget, ← hsp, State.setSP_sp]
  · obtain ⟨m, hm, he⟩ := pullOffset_within list ⟨n, h8⟩ hb
    have hio : isIo (t.sp k) = false := by
      rw [hsp, he]
      exact hplain m (by dsimp only at hm; omega)
    simp [doIf, hf, pull8_plain hio, hset, hsp, hn, BitVec.add_assoc]

/-- A word register of a list, in its place or left out. -/
theorem doIf_pull16 {set : State → Word → State} {get : State → Word} {n : Nat} (h8 : n < 8) (hn : slotBytes n = 2)
    (hf : ∀ t, f t = set (pull16 k t).2 (pull16 k t).1) (hset : ∀ t w v, set (t.setSP k w) v = (set t v).setSP k w)
    (hget : ∀ t, set t (get t) = t) (hsp : t.sp k = sp + pullOffset list n) :
    doIf (list.getLsbD n) f t =
      (set t (if list.getLsbD n then t.word (sp + pullOffset list n) else get t)).setSP k
        (sp + pullOffset list (n + 1)) := by
  rw [pullOffset_succ list ⟨n, h8⟩]
  cases hb : list.getLsbD n
  · simp [doIf, hget, ← hsp, State.setSP_sp]
  · obtain ⟨m, hm, he⟩ := pullOffset_within list ⟨n, h8⟩ hb
    have hio : isIo (t.sp k) = false := by
      rw [hsp, he]
      exact hplain m (by dsimp only at hm; omega)
    have hio' : isIo (t.sp k + 1) = false := by
      have e : sp + BitVec.ofNat 16 m + 1 = sp + BitVec.ofNat 16 (m + 1) := by bv_omega
      rw [hsp, he, e]
      exact hplain (m + 1) (by dsimp only at hm; omega)
    simp [doIf, hf, pull16_plain hio hio', hset, hsp, hn, BitVec.add_assoc]

/-- CC, bit 0. -/
theorem doIf_pullCC (hsp : t.sp k = sp + pullOffset list 0) :
    doIf (list.getLsbD 0) (pullCC k) t =
      (t.setCC (if list.getLsbD 0 then unpackCC (t.cell (sp + pullOffset list 0)) else t.cpu.cc)).setSP k
        (sp + pullOffset list 1) := by
  have h := doIf_pull8 hplain (f := pullCC k) (set := fun t v => t.setCC (unpackCC v))
    (get := fun t => packCC t.cpu.cc) (n := 0) (by decide) rfl (fun _ => rfl) (by cases k <;> exact fun _ _ _ => rfl)
    (fun t => by rw [unpack_packCC]; rfl) hsp
  rwa [apply_ite unpackCC, unpack_packCC] at h

theorem doIf_pullA (hsp : t.sp k = sp + pullOffset list 1) :
    doIf (list.getLsbD 1) (pullA k) t =
      (t.setA (if list.getLsbD 1 then t.cell (sp + pullOffset list 1) else t.cpu.a)).setSP k
        (sp + pullOffset list 2) :=
  doIf_pull8 hplain (set := State.setA) (get := fun t => t.cpu.a) (by decide) rfl (fun _ => rfl)
    (by cases k <;> exact fun _ _ _ => rfl) (fun _ => rfl) hsp

theorem doIf_pullB (hsp : t.sp k = sp + pullOffset list 2) :
    doIf (list.getLsbD 2) (pullB k) t =
      (t.setB (if list.getLsbD 2 then t.cell (sp + pullOffset list 2) else t.cpu.b)).setSP k
        (sp + pullOffset list 3) :=
  doIf_pull8 hplain (set := State.setB) (get := fun t => t.cpu.b) (by decide) rfl (fun _ => rfl)
    (by cases k <;> exact fun _ _ _ => rfl) (fun _ => rfl) hsp

theorem doIf_pullDP (hsp : t.sp k = sp + pullOffset list 3) :
    doIf (list.getLsbD 3) (pullDP k) t =
      (t.setDP (if list.getLsbD 3 then t.cell (sp + pullOffset list 3) else t.cpu.dp)).setSP k
        (sp + pullOffset list 4) :=
  doIf_pull8 hplain (set := State.setDP) (get := fun t => t.cpu.dp) (by decide) rfl (fun _ => rfl)
    (by cases k <;> exact fun _ _ _ => rfl) (fun _ => rfl) hsp

theorem doIf_pullX (hsp : t.sp k = sp + pullOffset list 4) :
    doIf (list.getLsbD 4) (pullX k) t =
      (t.setX (if list.getLsbD 4 then t.word (sp + pullOffset list 4) else t.cpu.x)).setSP k
        (sp + pullOffset list 5) :=
  doIf_pull16 hplain (set := State.setX) (get := fun t => t.cpu.x) (by decide) rfl (fun _ => rfl)
    (by cases k <;> exact fun _ _ _ => rfl) (fun _ => rfl) hsp

theorem doIf_pullY (hsp : t.sp k = sp + pullOffset list 5) :
    doIf (list.getLsbD 5) (pullY k) t =
      (t.setY (if list.getLsbD 5 then t.word (sp + pullOffset list 5) else t.cpu.y)).setSP k
        (sp + pullOffset list 6) :=
  doIf_pull16 hplain (set := State.setY) (get := fun t => t.cpu.y) (by decide) rfl (fun _ => rfl)
    (by cases k <;> exact fun _ _ _ => rfl) (fun _ => rfl) hsp

theorem doIf_pullPC (hsp : t.sp k = sp + pullOffset list 7) :
    doIf (list.getLsbD 7) (pullPC k) t =
      (t.setPC (if list.getLsbD 7 then t.word (sp + pullOffset list 7) else t.cpu.pc)).setSP k
        (sp + pullOffset list 8) :=
  doIf_pull16 hplain (set := State.setPC) (get := fun t => t.cpu.pc) (by decide) rfl (fun _ => rfl)
    (by cases k <;> exact fun _ _ _ => rfl) (fun _ => rfl) hsp

/-- The other stack pointer, bit 6; S arms the NMI. -/
theorem doIf_pullOther (hsp : t.sp k = sp + pullOffset list 6) :
    doIf (list.getLsbD 6) (pullOther k) t =
      armIf (k == .user && list.getLsbD 6)
        ((t.setSP k.other (if list.getLsbD 6 then t.word (sp + pullOffset list 6) else t.sp k.other)).setSP k
          (sp + pullOffset list 7)) := by
  have h := doIf_pull16 hplain (f := pullOtherUnarmed k) (set := fun t w => t.setSP k.other w)
    (get := fun t => t.sp k.other) (n := 6) (by decide) rfl (fun _ => rfl)
    (by cases k <;> exact fun _ _ _ => rfl) (by cases k <;> exact fun _ => rfl) hsp
  rw [doIf_pullOther_eq_armIf, h]

end Slots

/-- The pointer, and for bit 6 of PULU the NMI latch, are all a pull touches besides its registers. -/
theorem pullList_plain {k : Stack} {list : Byte} {s : State} (hplain : PlainSpan (s.sp k) (listBytes list)) :
    pullList k list s =
      { s with
        cpu :=
          { cc := if list.getLsbD 0 then unpackCC (s.cell (s.sp k + pullOffset list 0)) else s.cpu.cc
            a := if list.getLsbD 1 then s.cell (s.sp k + pullOffset list 1) else s.cpu.a
            b := if list.getLsbD 2 then s.cell (s.sp k + pullOffset list 2) else s.cpu.b
            dp := if list.getLsbD 3 then s.cell (s.sp k + pullOffset list 3) else s.cpu.dp
            x := if list.getLsbD 4 then s.word (s.sp k + pullOffset list 4) else s.cpu.x
            y := if list.getLsbD 5 then s.word (s.sp k + pullOffset list 5) else s.cpu.y
            u := if k = .user then s.sp k + BitVec.ofNat 16 (listBytes list)
              else if list.getLsbD 6 then s.word (s.sp k + pullOffset list 6) else s.cpu.u
            s := if k = .system then s.sp k + BitVec.ofNat 16 (listBytes list)
              else if list.getLsbD 6 then s.word (s.sp k + pullOffset list 6) else s.cpu.s
            pc := if list.getLsbD 7 then s.word (s.sp k + pullOffset list 7) else s.cpu.pc }
        ctl := { s.ctl with nmiArmed := s.ctl.nmiArmed || (k == .user && list.getLsbD 6) } } := by
  unfold pullList
  dsimp only
  rw [doIf_pullCC hplain (by rw [pullOffset_zero]; simp), doIf_pullA hplain (State.sp_setSP _ _ _),
    doIf_pullB hplain (State.sp_setSP _ _ _), doIf_pullDP hplain (State.sp_setSP _ _ _),
    doIf_pullX hplain (State.sp_setSP _ _ _), doIf_pullY hplain (State.sp_setSP _ _ _),
    doIf_pullOther hplain (State.sp_setSP _ _ _), doIf_pullPC hplain (by cases k <;> rfl), pullOffset_all]
  cases k <;> rfl

/-- From any stack the pointer moves past the list. -/
theorem pullList_sp (k : Stack) (list : Byte) (s : State) :
    (pullList k list s).sp k = s.sp k + BitVec.ofNat 16 (listBytes list) := by
  have hbyte {f : State → State} (hf : ∀ t, (f t).sp k = t.sp k + 1) (b : Bool) (t : State) :
      (doIf b f t).sp k = t.sp k + BitVec.ofNat 16 (if b then 1 else 0) := by
    cases b <;> simp [doIf, hf]
  have hword {f : State → State} (hf : ∀ t, (f t).sp k = t.sp k + 2) (b : Bool) (t : State) :
      (doIf b f t).sp k = t.sp k + BitVec.ofNat 16 (if b then 2 else 0) := by
    cases b <;> simp [doIf, hf]
  have hCC (t : State) : (pullCC k t).sp k = t.sp k + 1 := by cases k <;> simp [pullCC]
  have hA (t : State) : (pullA k t).sp k = t.sp k + 1 := by cases k <;> simp [pullA]
  have hB (t : State) : (pullB k t).sp k = t.sp k + 1 := by cases k <;> simp [pullB]
  have hDP (t : State) : (pullDP k t).sp k = t.sp k + 1 := by cases k <;> simp [pullDP]
  have hX (t : State) : (pullX k t).sp k = t.sp k + 2 := by cases k <;> simp [pullX]
  have hY (t : State) : (pullY k t).sp k = t.sp k + 2 := by cases k <;> simp [pullY]
  have hO (t : State) : (pullOther k t).sp k = t.sp k + 2 := by cases k <;> simp [pullOther]
  have hPC (t : State) : (pullPC k t).sp k = t.sp k + 2 := by cases k <;> simp [pullPC]
  simp only [pullList, hword hPC, hword hO, hword hY, hword hX, hbyte hDP, hbyte hB, hbyte hA, hbyte hCC,
    BitVec.add_assoc, ← BitVec.ofNat_add, listBytes, Nat.add_assoc]

/-- Settles O43: the pull from plain cells; from any, the pointer and the cells. -/
theorem pullListResult : Obligations.PullListResult := by
  intro p hp list s
  have hexec : exec (p.1 list) s = .next (pullList p.2 list s) := by
    simp only [List.mem_cons, List.not_mem_nil, or_false] at hp
    obtain rfl | rfl := hp <;> rfl
  refine ⟨⟨_, hexec, pullList_sp _ _ _, fun a ha => pullList_cell ha _ _ _⟩, fun hplain => ?_⟩
  rw [hexec, pullList_plain hplain]

end Sys2Proof.Machine
end

section
/-! SUPPORT. Interrupt entries, waits and returns (60_exceptions.md R466, R468, R477; 45_system.md R333..R335). -/

namespace Sys2Proof.Machine

-- Proofs are checked one after the other: those that wait for an earlier one would each hold a thread.
set_option Elab.async false

/-! ## Entries -/

/-- The interrupts whose entry sets F, and those whose entry sets I (60_exceptions.md R466). -/
def Interrupt.masksF : Interrupt → Bool
  | .nmi | .firq | .swi => true
  | .irq | .swi2 | .swi3 => false

def Interrupt.masksI : Interrupt → Bool
  | .nmi | .firq | .irq | .swi => true
  | .swi2 | .swi3 => false

theorem maskFor_cpu (k : Interrupt) (s : State) : (maskFor k s).cpu =
    { s.cpu with cc := { s.cpu.cc with f := s.cpu.cc.f || k.masksF, i := s.cpu.cc.i || k.masksI } } := by
  cases k <;> simp [maskFor, Interrupt.masksF, Interrupt.masksI]

theorem maskFor_ctl (k : Interrupt) (s : State) :
    (maskFor k s).ctl = { s.ctl with nmiLatch := if k = .nmi then false else s.ctl.nmiLatch } := by
  cases k <;> rfl

/-- The frame of an entry that pushes (60_exceptions.md R467). -/
def frameOf (k : Interrupt) (s : State) : List Byte := if k = .firq then shortFrame s else fullFrame s

theorem stackFrame_pushed {k : Interrupt} {s : State} (h : (s.ctl.cwaiStacked && k.isHardware) = false) :
    stackFrame k s = pushBytes .system (frameOf k s) (s.setE (decide (k ≠ .firq))) := by
  unfold frameOf
  split
  next hk =>
    subst hk
    rw [stackFrame_short (by simpa [Interrupt.isHardware] using h)]
    rfl
  next hk => rw [stackFrame_full h hk, decide_eq_true hk]

theorem frameOf_length (k : Interrupt) (s : State) : (frameOf k s).length = if k = .firq then 3 else 12 := by
  unfold frameOf
  split <;> rfl

/-- A frame moves S and E alone, and neither in the entry that ends a CWAI wait. -/
theorem stackFrame_regs (k : Interrupt) (s : State) : ∃ sp e,
    (stackFrame k s).cpu = { s.cpu with s := sp, cc := { s.cpu.cc with e := e } } ∧
    ((s.ctl.cwaiStacked && k.isHardware) = false →
      e = decide (k ≠ .firq) ∧ sp = s.cpu.s - (if k = .firq then 3 else 12)) ∧
    ((s.ctl.cwaiStacked && k.isHardware) = true → e = s.cpu.cc.e ∧ sp = s.cpu.s) := by
  cases h : s.ctl.cwaiStacked && k.isHardware
  · refine ⟨_, _, ?_, fun _ => ⟨rfl, rfl⟩, nofun⟩
    rw [stackFrame_pushed h, pushBytes_cpu, frameOf_length, apply_ite (BitVec.ofNat 16)]
    rfl
  · refine ⟨_, _, ?_, nofun, fun _ => ⟨rfl, rfl⟩⟩
    rw [stackFrame_none h]
    rfl

theorem stackFrame_ctl (k : Interrupt) (s : State) :
    (stackFrame k s).ctl = { s.ctl with cwaiStacked := s.ctl.cwaiStacked && !k.isHardware } := by
  cases h : s.ctl.cwaiStacked && k.isHardware
  · have hkeep : (s.ctl.cwaiStacked && !k.isHardware) = s.ctl.cwaiStacked := by
      revert h
      cases s.ctl.cwaiStacked <;> cases k.isHardware <;> simp
    rw [stackFrame_pushed h, pushBytes_ctl, State.setE_ctl, hkeep]
  · rw [stackFrame_none h]
    obtain ⟨-, hk⟩ := Bool.and_eq_true_iff.mp h
    simp [hk]

theorem stackFrame_dbg (k : Interrupt) (s : State) : (stackFrame k s).dbg = s.dbg := by
  cases h : s.ctl.cwaiStacked && k.isHardware
  · rw [stackFrame_pushed h, pushBytes_dbg, State.setE_dbg]
  · rw [stackFrame_none h, State.setCwaiStacked_dbg]

/-- Settles O11: the frame, the masks, the vector, each by its own lemma. -/
theorem interruptEntryEffect : Obligations.InterruptEntryEffect := by
  intro p hp s
  have hrow : ∀ p ∈ [(Interrupt.nmi, (0xBFFC : Word), true, true), (.firq, 0xBFF6, true, true),
      (.irq, 0xBFF8, false, true), (.swi, 0xBFFA, true, true), (.swi2, 0xBFF4, false, false),
      (.swi3, 0xBFF2, false, false)],
      p = (p.1, vector p.1 - 0x4000, p.1.masksF, p.1.masksI) ∧
      (p.1.isHardware = !decide (p.1 ∈ [Interrupt.swi, .swi2, .swi3])) := by decide
  obtain ⟨hp, hhw⟩ := hrow p hp
  rw [hp]
  generalize p.1 = k at hhw
  obtain ⟨sp, e, hframe, hpush, hwait⟩ := stackFrame_regs k s
  have hcpu := enterInterrupt_cpu k s
  rw [maskFor_cpu, hframe] at hcpu
  have hctl := enterInterrupt_ctl k s
  rw [maskFor_ctl, stackFrame_ctl, hhw, Bool.not_not] at hctl
  dsimp only
  refine ⟨?_, ?_, ?_, ?_, ?_, ?_, ?_, ?_, ?_, ?_, ?_, ?_, ?_, ?_, ?_, hctl, fun h => ?_, fun h => ?_⟩
  case refine_15 => rw [enterInterrupt_dbg, stackFrame_dbg]
  case refine_16 =>
    have hno : (s.ctl.cwaiStacked && k.isHardware) = false := by
      obtain h | h := h <;> simp [h, hhw]
    rw [hcpu]
    exact hpush hno
  case refine_17 =>
    have hyes : (s.ctl.cwaiStacked && k.isHardware) = true := by
      simpa [hhw, not_or] using h
    obtain ⟨he, hs⟩ := hwait hyes
    rw [hcpu]
    refine ⟨he, hs, fun a ha => ?_⟩
    rw [enterInterrupt_cell ha, stackFrame_none hyes, State.cell_setCwaiStacked]
  all_goals rw [hcpu]

/-! ## Waits -/

/-- The frame of CWAI is that of an entry with E = 1 (45_system.md R334). -/
theorem waitStacked_eq (m : Byte) (s : State) :
    waitStacked m s =
      ((pushBytes .system (fullFrame (s.setCC { unpackCC (packCC s.cpu.cc &&& m) with e := true }))
        (s.setCC { unpackCC (packCC s.cpu.cc &&& m) with e := true })).setCwaiStacked true).setRunState .sync := by
  rw [waitStacked, pushFullFrame, pushList_eq]
  rfl

/-- A wait without a line goes on (60_exceptions.md R468). -/
theorem step_waiting {s : State} (hsync : s.ctl.runState = .sync) (hr : s.ctl.resetIn = false)
    (hh : s.ctl.haltIn = false) (hi : s.ctl.irqIn = false) (hf : s.ctl.firqIn = false)
    (hn : s.ctl.nmiLatch = false) : step s = .next s := by
  have hnone : pendingInterrupt s = none := by simp [pendingInterrupt, hi, hf, hn]
  rw [step_run hr hh (by simp [hsync]), runStep, hnone]
  simp [hsync, wakes, lineAsserted, hi, hf, hn]

/-- Settles O14: CWAI is a pushed frame; a SYNC state is its own next state. -/
theorem cwaiAndSyncEffect : Obligations.CwaiAndSyncEffect := by
  refine ⟨fun m s => ⟨_, rfl, ?_⟩, fun s => ⟨_, rfl, rfl, fun hr hh hi hf hn n => ?_⟩⟩
  · rw [waitStacked_eq]
    generalize ({ unpackCC (packCC s.cpu.cc &&& m) with e := true } : CC) = cc
    refine ⟨?_, ?_, ?_, fun hw j b hj hram => ?_, fun a ha hout => ?_⟩
    · rw [State.setRunState_cpu, State.setCwaiStacked_cpu, pushBytes_cpu]
      rfl
    · rw [State.setRunState_ctl, State.setCwaiStacked_ctl, pushBytes_ctl]
      rfl
    · rw [State.setRunState_dbg, State.setCwaiStacked_dbg, pushBytes_dbg]
      rfl
    · rw [State.cell_setRunState, State.cell_setCwaiStacked]
      exact pushBytes_ramHolds (k := .system) (s := s.setCC cc) hw (by simp [fullFrame]) j b hj hram
    · rw [State.cell_setRunState, State.cell_setCwaiStacked]
      exact pushBytes_cell (k := .system) (bs := fullFrame (s.setCC cc)) (s := s.setCC cc) ha hout
  · refine run_fixed (M := core) ?_ n
    exact step_waiting (s := s.setRunState .sync) rfl hr hh hi hf hn

/-! ## Returns -/

theorem pullCC_plain {s : State} (h : isIo s.cpu.s = false) :
    pullCC .system s = (s.setS (s.cpu.s + 1)).setCC (unpackCC (s.cell s.cpu.s)) := by
  rw [pullCC, pull8_plain (k := .system) h]
  rfl

theorem pullPC_plain {s : State} (h1 : isIo s.cpu.s = false) (h2 : isIo (s.cpu.s + 1) = false) :
    pullPC .system s = (s.setS (s.cpu.s + 2)).setPC (s.word s.cpu.s) := by
  rw [pullPC, pull16_plain (k := .system) h1 h2]
  rfl

theorem returnFromInterrupt_short {s : State} (hplain : PlainSpan s.cpu.s 3)
    (he : (s.cell s.cpu.s).getLsbD 7 = false) :
    returnFromInterrupt s =
      { s with cpu := { s.cpu with
          cc := unpackCC (s.cell s.cpu.s), pc := s.word (s.cpu.s + 1), s := s.cpu.s + 3 } } := by
  have h0 : isIo s.cpu.s = false := by simpa using hplain 0 (by decide)
  have h1 : isIo (s.cpu.s + 1) = false := hplain 1 (by decide)
  have h2 : isIo (s.cpu.s + 1 + 1) = false := by
    rw [BitVec.add_assoc]; exact hplain 2 (by decide)
  have e : s.cpu.s + 1 + 2 = s.cpu.s + 3 := by bv_omega
  rw [returnFromInterrupt, pullCC_plain h0]
  dsimp only
  rw [if_neg (by simpa [unpackCC] using he), pullPC_plain (by exact h1) (by exact h2)]
  simp only [State.setCC_cpu, State.setS_cpu, e]
  rfl

/-- The full frame between CC and PC. -/
theorem pullFrame_plain {t : State} (h : PlainSpan t.cpu.s 9) :
    pullList .system 0x7E t =
      { t with cpu := { t.cpu with
          a := t.cell t.cpu.s, b := t.cell (t.cpu.s + 1), dp := t.cell (t.cpu.s + 2), x := t.word (t.cpu.s + 3),
          y := t.word (t.cpu.s + 5), u := t.word (t.cpu.s + 7), s := t.cpu.s + 9 } } := by
  rw [pullList_plain (by exact h)]
  simp [pullOffset, listBytes, show (Stack.system == Stack.user) = false from rfl]

theorem returnFromInterrupt_full {s : State} (hplain : PlainSpan s.cpu.s 12)
    (he : (s.cell s.cpu.s).getLsbD 7 = true) :
    returnFromInterrupt s =
      { s with
        cpu :=
          { cc := unpackCC (s.cell s.cpu.s), a := s.cell (s.cpu.s + 1), b := s.cell (s.cpu.s + 2),
            dp := s.cell (s.cpu.s + 3), x := s.word (s.cpu.s + 4), y := s.word (s.cpu.s + 6),
            u := s.word (s.cpu.s + 8), pc := s.word (s.cpu.s + 10), s := s.cpu.s + 12 }
        dbg := { s.dbg with lastCycles := s.dbg.lastCycles + 9 } } := by
  have h0 : isIo s.cpu.s = false := by simpa using hplain 0 (by decide)
  have hat (m n : Nat) : s.cpu.s + BitVec.ofNat 16 m + BitVec.ofNat 16 n = s.cpu.s + BitVec.ofNat 16 (m + n) := by
    rw [BitVec.add_assoc, BitVec.ofNat_add]
  have hframe : PlainSpan (s.cpu.s + 1) 9 := fun j hj => by
    rw [show s.cpu.s + 1 + BitVec.ofNat 16 j = s.cpu.s + BitVec.ofNat 16 (1 + j) from hat 1 j]
    exact hplain (1 + j) (by omega)
  have h10 : isIo (s.cpu.s + 1 + 9) = false := by
    rw [BitVec.add_assoc]; exact hplain 10 (by decide)
  have h11 : isIo (s.cpu.s + 1 + 9 + 1) = false := by
    rw [BitVec.add_assoc, BitVec.add_assoc]; exact hplain 11 (by decide)
  rw [returnFromInterrupt, pullCC_plain h0]
  dsimp only
  rw [if_pos (by simpa [unpackCC] using he), pullFrame_plain (by exact hframe),
    pullPC_plain (by exact h10) (by exact h11)]
  simp [addCycles, State.word, BitVec.add_assoc]
  rfl

/-- Settles O15: the two returns from plain cells; from any stack, a return only reads. -/
theorem rtiEffect : Obligations.RtiEffect := by
  refine ⟨rfl, rfl, fun s => ⟨⟨_, rfl, fun a ha => returnFromInterrupt_cell ha s, ?_⟩, fun hplain he => ?_,
    fun hplain he => ?_⟩⟩
  · simpa using (Moves.returnFromInterrupt s).ctl.1
  · exact (congrArg Host.Outcome.next (returnFromInterrupt_short hplain he) :)
  · exact (congrArg Host.Outcome.next (returnFromInterrupt_full hplain he) :)

/-- A stacked byte in RAM is read back by its place in the frame. -/
theorem RamHolds.cell {t : State} {a : Word} {bytes : List Byte} (h : RamHolds t a bytes)
    (hram : ∀ j, j < bytes.length → cellKind (a + BitVec.ofNat 16 j) = .ram) {j : Nat} {b : Byte}
    (hj : bytes[j]? = some b) : t.cell (a + BitVec.ofNat 16 j) = b :=
  h j b hj (hram j (List.getElem?_eq_some_iff.mp hj).1)

theorem RamHolds.word {t : State} {a : Word} {bytes : List Byte} (h : RamHolds t a bytes)
    (hram : ∀ j, j < bytes.length → cellKind (a + BitVec.ofNat 16 j) = .ram) {j : Nat} {w : Word}
    (hhi : bytes[j]? = some (hi w)) (hlo : bytes[j + 1]? = some (lo w)) : t.word (a + BitVec.ofNat 16 j) = w := by
  have e : a + BitVec.ofNat 16 j + 1 = a + BitVec.ofNat 16 (j + 1) := by bv_omega
  rw [State.word, e, h.cell hram hhi, h.cell hram hlo, join_hi_lo]

/-- A return from the full frame of a state. -/
theorem returnFromInterrupt_fullFrame {s t : State} (hs : t.cpu.s = s.cpu.s - 12)
    (hframe : RamHolds t (s.cpu.s - 12) (fullFrame s))
    (hram : ∀ j, j < 12 → cellKind (s.cpu.s - 12 + BitVec.ofNat 16 j) = .ram) :
    (returnFromInterrupt t).cpu = { s.cpu with cc := { s.cpu.cc with e := true } } := by
  have hplain : PlainSpan t.cpu.s 12 := fun j hj => isIo_ram (hs ▸ hram j hj)
  have hcc : t.cell t.cpu.s = packCC { s.cpu.cc with e := true } := by
    simpa [hs] using hframe.cell hram (j := 0) rfl
  have he : (t.cell t.cpu.s).getLsbD 7 = true := by
    have := congrArg CC.e (unpack_packCC { s.cpu.cc with e := true })
    rwa [← hcc] at this
  rw [returnFromInterrupt_full hplain he, hcc, unpack_packCC, hs]
  have ha := hframe.cell hram (j := 1) rfl
  have hb := hframe.cell hram (j := 2) rfl
  have hdp := hframe.cell hram (j := 3) rfl
  have hx := hframe.word hram (j := 4) (w := s.cpu.x) rfl rfl
  have hy := hframe.word hram (j := 6) (w := s.cpu.y) rfl rfl
  have hu := hframe.word hram (j := 8) (w := s.cpu.u) rfl rfl
  have hpc := hframe.word hram (j := 10) (w := s.cpu.pc) rfl rfl
  simp only [BitVec.ofNat_eq_ofNat] at ha hb hdp hx hy hu hpc ⊢
  rw [ha, hb, hdp, hx, hy, hu, hpc]
  simp

/-- A return from the short frame of a state. -/
theorem returnFromInterrupt_shortFrame {s t : State}
    (ht : t.cpu = { s.cpu with s := s.cpu.s - 3, cc := t.cpu.cc, pc := t.cpu.pc })
    (hframe : RamHolds t (s.cpu.s - 3) (shortFrame s))
    (hram : ∀ j, j < 3 → cellKind (s.cpu.s - 3 + BitVec.ofNat 16 j) = .ram) :
    (returnFromInterrupt t).cpu = { s.cpu with cc := { s.cpu.cc with e := false } } := by
  have hs : t.cpu.s = s.cpu.s - 3 := by rw [ht]
  have hplain : PlainSpan t.cpu.s 3 := fun j hj => isIo_ram (hs ▸ hram j hj)
  have hcc : t.cell t.cpu.s = packCC { s.cpu.cc with e := false } := by
    simpa [hs] using hframe.cell hram (j := 0) rfl
  have he : (t.cell t.cpu.s).getLsbD 7 = false := by
    have := congrArg CC.e (unpack_packCC { s.cpu.cc with e := false })
    rwa [← hcc] at this
  rw [returnFromInterrupt_short hplain he, hcc, unpack_packCC, hs]
  have hpc := hframe.word hram (j := 1) (w := s.cpu.pc) rfl rfl
  simp only [BitVec.ofNat_eq_ofNat] at hpc ⊢
  rw [hpc, ht]
  simp

/-- Settles O16: the stacked frame is the one the return pulls. -/
theorem returnUndoesInterruptEntry : Obligations.ReturnUndoesInterruptEntry := by
  intro k s hw hwait hram
  refine ⟨_, rfl, ?_⟩
  obtain ⟨hfull, hsp, hshort, -⟩ := interruptFramesOnTheStack s hw hwait
  by_cases hk : k = .firq
  · subst hk
    have hram3 (j : Nat) (hj : j < 3) : cellKind (s.cpu.s - 3 + BitVec.ofNat 16 j) = .ram := by
      have e : s.cpu.s - 3 + BitVec.ofNat 16 j = s.cpu.s - 12 + BitVec.ofNat 16 (9 + j) := by bv_omega
      rw [e]
      exact hram (9 + j) (by omega)
    obtain ⟨sp, e, hframe, -⟩ := stackFrame_regs .firq s
    have hcpu := enterInterrupt_cpu .firq s
    rw [maskFor_cpu, hframe] at hcpu
    refine returnFromInterrupt_shortFrame ?_ hshort hram3
    rw [← hsp, hcpu]
  · have hmem : k ∈ [Interrupt.nmi, .irq, .swi, .swi2, .swi3] := by
      cases k with
      | firq => exact absurd rfl hk
      | nmi | irq | swi | swi2 | swi3 => decide
    obtain ⟨hsp', hframe, -⟩ := hfull k hmem
    rw [returnFromInterrupt_fullFrame hsp' hframe hram, decide_eq_true hk]

end Sys2Proof.Machine
end

section
/-! SUPPORT. The address map and the memory (20_memory.md), the SAM's windows (46_dev_sam.md) and the video mode
(47_dev_vdg.md R373, R374). -/

namespace Sys2Proof.Machine

-- Proofs are checked one after the other: those that wait for an earlier one would each hold a thread.
set_option Elab.async false

/-! ## The address map -/

theorem cellKind_samVec {a : Word} (h : 0xFFF2 ≤ a.toNat) : cellKind a = .io .samVec := by
  simp only [cellKind, bootMap, attrOf]
  rw [if_pos (by omega)]

theorem cellKind_samCtl {a : Word} (h : 0xFFC0 ≤ a.toNat) (h' : a.toNat ≤ 0xFFDF) : cellKind a = .io .samCtl := by
  simp only [cellKind, bootMap, attrOf]
  rw [if_neg (by omega), if_pos (by omega)]

/-- The addresses between the devices, which the source does not name (20_memory.md R63). -/
theorem cellKind_ram_high {a : Word} (h : 0xFF04 ≤ a.toNat ∧ a.toNat ≤ 0xFF1F ∨ 0xFF24 ≤ a.toNat ∧ a.toNat ≤ 0xFFBF ∨
    0xFFE0 ≤ a.toNat ∧ a.toNat ≤ 0xFFF1) : cellKind a = .ram := by
  simp only [cellKind, bootMap, attrOf]
  repeat rw [if_neg (by omega)]

/-- The callback cells are the spans of the ten device calls (20_memory.md R63). -/
theorem isIo_iff (a : Word) : isIo a = true ↔
    a.toNat ∈ [0xFF00, 0xFF01, 0xFF02, 0xFF03, 0xFF20, 0xFF21, 0xFF22, 0xFF23] ∨
      (0xFFC0 ≤ a.toNat ∧ a.toNat ≤ 0xFFDF) ∨ 0xFFF2 ≤ a.toNat := by
  simp only [List.mem_cons, List.not_mem_nil, or_false]
  constructor
  · intro h
    by_contra hout
    have hplain : cellKind a = .ram ∨ cellKind a = .rom := by
      by_cases hlow : a.toNat < 0x8000
      · exact .inl (cellKind_ram_low hlow)
      by_cases hrom : a.toNat ≤ 0xFEFF
      · exact .inr (cellKind_rom (by omega) hrom)
      · exact .inl (cellKind_ram_high (by omega))
    obtain hk | hk := hplain <;> simp [isIo, hk] at h
  · rintro (h | ⟨hlow, hhigh⟩ | hvec)
    · obtain h | h | h | h | h | h | h | h := h
      all_goals
        rw [isIo, cellKind, h]
        decide
    · exact isIo_io (cellKind_samCtl hlow hhigh)
    · exact isIo_io (cellKind_samVec hvec)

/-- Settles O60: the spans of the boot calls, one after the other. -/
theorem addressMapOfTheMachine : Obligations.AddressMapOfTheMachine := by
  refine ⟨fun a => ⟨fun h => cellKind_ram_low (by omega), cellKind_rom, fun h h' => cellKind_ram_high (by omega),
    fun h h' => cellKind_ram_high (by omega), cellKind_samCtl, fun h h' => cellKind_ram_high (by omega),
    cellKind_samVec, isIo_iff a⟩,
    by decide, by decide, by decide, by decide, by decide, by decide, by decide, by decide,
    bootDefines_eq, fun first last p m h => ⟨defineSpan_fault h m, defineSpan_fault h m⟩⟩

/-! ## Bytes and words -/

theorem join_toNat (h l : Byte) : (join h l).toNat = h.toNat * 256 + l.toNat := by
  rw [join, BitVec.toNat_append, ← Nat.shiftLeft_add_eq_or_of_lt l.isLt, Nat.shiftLeft_eq]

theorem read8_io {a : Word} {p : IoPort} (h : cellKind a = .io p) (s : State) :
    read8 a s = ((ioRead p a s).1, (ioRead p a s).2.setCell a (ioRead p a s).1) := by
  simp only [read8, h]

theorem write8_io {a : Word} {p : IoPort} (h : cellKind a = .io p) (v : Byte) (s : State) :
    write8 a v s = ioWrite p a v (s.setCell a v) := by
  simp only [write8, h]

/-- A RAM byte just written is read back, and reading changes nothing. -/
theorem read8_write8_ram {a : Word} {s : State} (ha : cellKind a = .ram) (hw : s.mem.wf = true) (v : Byte) :
    read8 a (write8 a v s) = (v, write8 a v s) := by
  rw [read8_plain (isIo_ram ha), write8_cell_same hw ha]

/-- A RAM word just written is read back. -/
theorem memWrite16_cells {a : Word} {s : State} (h0 : cellKind a = .ram) (h1 : cellKind (a + 1) = .ram)
    (hw : s.mem.wf = true) (w : Word) :
    (memWrite16 a w s).cell a = hi w ∧ (memWrite16 a w s).cell (a + 1) = lo w := by
  have hne : a ≠ a + 1 := by bv_omega
  exact ⟨by rw [memWrite16, write8_cell (isIo_ram h0) hne, write8_cell_same hw h0],
    write8_cell_same (write8_wf hw _ _) h1 _⟩

/-- A read of the vector window (46_dev_sam.md R356). -/
theorem read8_window {a : Word} (h : 0xFFF2 ≤ a.toNat) (s : State) :
    read8 a s = (s.cell (a - 0x4000), s.setCell a (s.cell (a - 0x4000))) := by
  have htarget : vectorTarget a = a - 0x4000 := by
    have hlt := a.isLt
    obtain ⟨n, hn, rfl⟩ : ∃ n, n < 14 ∧ a = 0xFFF2 + BitVec.ofNat 16 n := ⟨a.toNat - 0xFFF2, by omega, by bv_omega⟩
    interval_cases n <;> decide
  simp only [read8_io (cellKind_samVec h), ioRead, samVecRead, htarget]

theorem write8_window {a : Word} (h : 0xFFF2 ≤ a.toNat) (v : Byte) (s : State) : write8 a v s = s.setCell a v :=
  write8_io (cellKind_samVec h) v s

/-- Settles O21: RAM, ROM, and the word at the top. -/
theorem writtenBytesAreReadBack : Obligations.WrittenBytesAreReadBack := by
  refine ⟨fun a v s => ⟨fun h => write8_rom h v s, fun h hw => ⟨read8_write8_ram h hw v, ?_⟩⟩,
    fun a w s hw h0 h1 => ?_, fun w s hw => ?_⟩
  · rw [write8_ram h]
    exact ⟨fun b hb => State.cell_setCell_other hb, rfl, rfl, rfl, rfl, rfl, rfl, rfl, rfl, rfl, rfl⟩
  · obtain ⟨hhi, hlo⟩ := memWrite16_cells h0 h1 hw w
    refine ⟨hhi, hlo, ?_, ?_⟩
    · rw [memRead16_plain (isIo_ram h0) (isIo_ram h1), join_toNat]
    · rw [memRead16_plain (isIo_ram h0) (isIo_ram h1), hhi, hlo, join_hi_lo]
  · have htop : (0xFFF2 : Nat) ≤ (0xFFFF : Word).toNat := by decide
    have hzero : cellKind 0x0000 = .ram := by decide
    have hnext : (0xFFFF + 1 : Word) = 0x0000 := by decide
    have hstore : memWrite16 0xFFFF w s = (s.setCell 0xFFFF (hi w)).setCell 0x0000 (lo w) := by
      rw [memWrite16, write8_window htop, hnext, write8_ram hzero]
    refine ⟨?_, ?_, ?_, fun b hb hb' => ?_⟩
    · rw [memRead16, read8_window htop, hnext, read8_plain (isIo_ram hzero), State.cell_setCell_other (by decide),
        join_toNat]
      rfl
    · rw [hstore, State.cell_setCell_other (by decide), State.cell_setCell_same hw]
    · rw [hstore, State.cell_setCell_same (State.wf_setCell hw)]
    · rw [hstore, State.cell_setCell_other hb', State.cell_setCell_other hb]

/-- Settles O22: the redirect, and a write that lands elsewhere than the redirect's target. -/
theorem vectorWindowReadsTheRom : Obligations.VectorWindowReadsTheRom := by
  intro a v s h
  have hne : a - 0x4000 ≠ a := by bv_omega
  rw [read8_window h, write8_window h, read8_window h, State.cell_setCell_other hne]
  exact ⟨rfl, rfl, rfl⟩

/-! ## The SAM's control window -/

theorem getLsbD_samSetBit (sam : BitVec 16) (k j : Fin 16) (v : Bool) :
    (samSetBit sam k v).getLsbD j = if j = k then v else sam.getLsbD j := by
  have hbit : (1#16 <<< k.val).getLsbD j = decide (j = k) := by
    revert j k
    decide
  unfold samSetBit
  split
  next hv =>
    rw [BitVec.getLsbD_or, hbit]
    by_cases hjk : j = k <;> simp [hjk, hv]
  next hv =>
    rw [BitVec.getLsbD_and, BitVec.getLsbD_not, hbit]
    by_cases hjk : j = k <;> simp [hjk, hv, j.isLt]

/-- The addresses of the window, pair by pair (46_dev_sam.md R350). -/
theorem samWindow (k : Fin 16) (b : Bool) :
    cellKind (0xFFC0 + BitVec.ofNat 16 (2 * k.val + b.toNat)) = .io .samCtl ∧
    samTarget (0xFFC0 + BitVec.ofNat 16 (2 * k.val + b.toNat)) = k ∧
    (0xFFC0 + BitVec.ofNat 16 (2 * k.val + b.toNat) : Word).getLsbD 0 = b := by
  revert k b
  decide

theorem displayBaseOf_toNat (o : BitVec 7) : (displayBaseOf o).toNat = o.toNat * 512 := by
  revert o
  decide

/-- Settles O23: a write sets one bit and pushes the rest to the VDG; a read draws its byte. -/
theorem samControlWindow : Obligations.SamControlWindow := by
  refine ⟨fun k b v s => ?_, fun k s => ?_⟩
  · obtain ⟨hkind, htarget, hbit⟩ := samWindow k b
    generalize (0xFFC0 + BitVec.ofNat 16 (2 * k.val + b.toNat) : Word) = a at hkind htarget hbit
    dsimp only
    rw [write8_io hkind]
    refine ⟨fun j => ?_, ⟨rfl, rfl, rfl, rfl⟩, displayBaseOf_toNat _, rfl, rfl, rfl, rfl, rfl, rfl, rfl, rfl,
      fun c hc => State.cell_setCell_other (ne_of_isIo hc (isIo_io hkind))⟩
    show (samSetBit s.sam (samTarget a) (a.getLsbD 0)).getLsbD j = _
    rw [htarget, hbit, getLsbD_samSetBit]
  · have hkind : cellKind (0xFFC0 + BitVec.ofNat 16 k.val) = .io .samCtl :=
      cellKind_samCtl (by bv_omega) (by bv_omega)
    exact ⟨_, read8_io hkind s⟩

/-! ## The video mode -/

/-- The fields of the mode bits a write of port B hands over (47_dev_vdg.md R371, R373). -/
theorem piaMode_fields (v : Byte) :
    (v.extractLsb' 3 5).toNat = v.toNat / 8 ∧ (v.extractLsb' 3 5).getLsbD 4 = decide (128 ≤ v.toNat) ∧
    ((v.extractLsb' 3 5).extractLsb' 1 3).toNat = v.toNat / 16 % 8 ∧
    (v.extractLsb' 3 5).getLsbD 1 = decide (v.toNat / 16 % 2 = 1) := by
  revert v
  decide

theorem graphicsMode_row (gm : BitVec 3) : some (graphicsMode gm) =
    [VideoMode.graphics1C, .graphics1R, .graphics2C, .graphics2R, .graphics3C, .graphics3R, .graphics6C,
      .graphics6R][gm.toNat]? := by
  revert gm
  decide

/-- The table of 47_dev_vdg.md R374, by the SAM mode and the bits `g` and `ext`. -/
theorem compose_table (sam : BitVec 3) (pia : BitVec 5) :
    (sam.toNat = 7 → compose sam pia = .dma) ∧
    (sam.toNat ≠ 7 → pia.getLsbD 4 = true → compose sam pia = graphicsMode (pia.extractLsb' 1 3)) ∧
    (pia.getLsbD 4 = false → pia.getLsbD 1 = false →
      (sam.toNat = 0 → compose sam pia = .alphaInternal) ∧ (sam.toNat = 2 → compose sam pia = .semiGraphics8) ∧
      (sam.toNat = 4 → compose sam pia = .semiGraphics12) ∧ (sam.toNat = 6 → compose sam pia = .semiGraphics24)) ∧
    (pia.getLsbD 4 = false → pia.getLsbD 1 = true →
      (sam.toNat = 0 → compose sam pia = .alphaExternal) ∧
      (sam.toNat = 2 ∨ sam.toNat = 4 ∨ sam.toNat = 6 → compose sam pia = .undefinedMode)) ∧
    (pia.getLsbD 4 = false → sam.toNat = 1 ∨ sam.toNat = 3 ∨ sam.toNat = 5 → compose sam pia = .undefinedMode) := by
  refine ⟨?_, ?_, ?_, ?_, ?_⟩
  all_goals
    revert sam pia
    decide

/-- Settles O24: the table, with `g` and `ext` as numbers of the byte. -/
theorem videoModeTable : Obligations.VideoModeTable := by
  intro v s
  obtain ⟨hpia, hg, hgm, hext⟩ := piaMode_fields v
  have hwrite : write8 0xFF22 v s = pia1PbWrite v (s.setCell 0xFF22 v) :=
    write8_io (p := .pia1Pb) (by decide) v s
  have hmode : (write8 0xFF22 v s).vdg.mode = compose s.vdg.samVideoMode (v.extractLsb' 3 5) := by rw [hwrite]; rfl
  obtain ⟨hdma, hgraphics, hint, hsemi, hodd⟩ := compose_table s.vdg.samVideoMode (v.extractLsb' 3 5)
  have hlow (h : v.toNat < 128) : (v.extractLsb' 3 5).getLsbD 4 = false := hg.trans (decide_eq_false (by omega))
  dsimp only
  rw [hmode, hwrite]
  refine ⟨hpia, rfl, rfl, rfl, rfl, rfl, hdma, fun h7 h => ?_, fun h he => hint (hlow h) ?_,
    fun h he => hsemi (hlow h) ?_, fun h => hodd (hlow h)⟩
  · rw [hgraphics h7 (by rw [hg]; exact decide_eq_true h), graphicsMode_row, hgm]
  · exact hext.trans (decide_eq_false (by omega))
  · exact hext.trans (decide_eq_true he)

end Sys2Proof.Machine
end

section
/-! SUPPORT. PIA0 (48_dev_pia0.md): the row cache under key events, the scan, the field sync, and what port A
shows. -/

namespace Sys2Proof.Machine

-- Proofs are checked one after the other: those that wait for an earlier one would each hold a thread.
set_option Elab.async false

/-! ## The row cache and key events -/

theorem RowCache.get_set (c : RowCache) (r q : Fin 7) (v : Byte) :
    (c.set r v).get q = if q = r then v else c.get q := by
  fin_cases r <;> fin_cases q <;> rfl

@[simp] theorem keyEvent_zero (p : Pia0) : keyEvent 0 p = p := rfl

/-- A make clears the key's mask in its row, a break sets it (48_dev_pia0.md R405). -/
theorem keyEvent_matrix {e : Byte} {code : Nat} (he : e ≠ 0) (hcode : (e &&& 0x7F).toNat = code) (hlast : code ≤ 80)
    (hkey : ¬ (59 ≤ code ∧ code ≤ 68)) (p : Pia0) :
    keyEvent e p = { p with
      rowCache := p.rowCache.set (keymap code).1
        (if e.getLsbD 7 then p.rowCache.get (keymap code).1 ||| (keymap code).2
          else p.rowCache.get (keymap code).1 &&& ~~~(keymap code).2) } := by
  simp only [keyEvent, if_neg he, hcode, if_neg hkey, if_pos hlast]

/-- A make of a function key is latched; its break does nothing (48_dev_pia0.md R410). -/
theorem keyEvent_function {e : Byte} {code : Nat} (he : e ≠ 0) (hcode : (e &&& 0x7F).toNat = code)
    (hkey : 59 ≤ code ∧ code ≤ 68) (p : Pia0) :
    keyEvent e p = if e.getLsbD 7 then p else { p with fkey := code - 58 } := by
  simp only [keyEvent, if_neg he, hcode, if_pos hkey]

theorem keyEvent_other {e : Byte} (h : 80 < (e &&& 0x7F).toNat) (p : Pia0) : keyEvent e p = p := by
  have hkey : ¬ (59 ≤ (e &&& 0x7F).toNat ∧ (e &&& 0x7F).toNat ≤ 68) := by omega
  simp only [keyEvent, if_neg hkey, if_neg (Nat.not_le.mpr h), ite_self]

/-- The code and the break bit of a make event and of the break that follows it. -/
theorem makeBreak {e : Byte} (h : e.toNat < 128) :
    (e &&& 0x7F).toNat = e.toNat ∧ e.getLsbD 7 = false ∧
    ((e ||| 0x80) &&& 0x7F).toNat = e.toNat ∧ (e ||| 0x80).getLsbD 7 = true ∧ e ||| 0x80 ≠ 0 := by
  revert e
  decide

/-! ## The scan -/

theorem rowReads_iff (v row : Byte) :
    rowReads (~~~v) row = false ↔ ∃ c, c < 8 ∧ v.getLsbD c = false ∧ row.getLsbD c = false := by
  rw [rowReads, beq_eq_false_iff_ne, Ne, BitVec.eq_of_getLsbD_eq_iff]
  push Not
  refine exists_congr fun c => ?_
  refine and_congr_right fun hc => ?_
  cases hv : v.getLsbD c <;> cases hr : row.getLsbD c <;> simp_all

/-- The bits of seven rows, lowest row last. -/
theorem sevenBits (b : Fin 7 → Bool) (r : Fin 7) :
    (BitVec.ofBool (b 6) ++ BitVec.ofBool (b 5) ++ BitVec.ofBool (b 4) ++ BitVec.ofBool (b 3) ++ BitVec.ofBool (b 2) ++
      BitVec.ofBool (b 1) ++ BitVec.ofBool (b 0)).getLsbD r = b r := by
  simp only [BitVec.getLsbD_append, BitVec.getLsbD_ofBool]
  fin_cases r <;> rfl

theorem scanRows_getLsbD (c : RowCache) (v : Byte) (r : Fin 7) :
    (scanRows c v).getLsbD r = rowReads (~~~v) (c.get r) :=
  sevenBits (fun q => rowReads (~~~v) (c.get q)) r

/-- A write of port B takes the next event, if there is one, and scans (48_dev_pia0.md R405). -/
theorem write8_portB (v : Byte) (s : State) :
    (write8 0xFF02 v s).pia0 =
      { keyEvent (s.host.keyEvents.headD 0) s.pia0 with
        rowScan := scanRows (keyEvent (s.host.keyEvents.headD 0) s.pia0).rowCache v } ∧
    (write8 0xFF02 v s).host.keyEvents = s.host.keyEvents.tail := by
  have hkey (t : State) : (keyboardRead t).1 = t.host.keyEvents.headD 0 ∧
      (keyboardRead t).2.host.keyEvents = t.host.keyEvents.tail := by
    unfold keyboardRead
    split
    next h => simp [h]
    next h => simp [h]
  have hlevel (t : State) : (joystkComp t).2.host.keyEvents = t.host.keyEvents := by
    unfold joystkComp
    split <;> rfl
  rw [write8_io (p := .pia0Pb) (by decide)]
  simp only [ioWrite, pia0PbWrite, State.setCell_pia0, State.setCell_host, joystkComp_same, keyboardRead_same, hlevel,
    hkey, and_self]

/-- Port A's cell shows the scan in its bits 6..0, port B's the byte written (48_dev_pia0.md R405). -/
theorem write8_portB_cells {v : Byte} {s : State} (hw : s.mem.wf = true) :
    (∀ r : Fin 7, ((write8 0xFF02 v s).cell 0xFF00).getLsbD r = (write8 0xFF02 v s).pia0.rowScan.getLsbD r) ∧
    (write8 0xFF02 v s).cell 0xFF02 = v := by
  have hlevel (level : Bool) (rows : BitVec 7) (r : Fin 7) :
      (comparatorBit level ||| rows.setWidth 8).getLsbD r = rows.getLsbD r := by
    cases level <;> revert rows r <;> decide
  have hmem (t : State) (e : Pia0) : (joystkComp { (keyboardRead t).2 with pia0 := e }).2.mem = t.mem := by
    rw [(joystkComp_same _).2.2.2.1]
    exact (keyboardRead_same t).2.2.2.1
  rw [write8_io (p := .pia0Pb) (by decide)]
  simp only [ioWrite, pia0PbWrite, State.setCell_pia0, joystkComp_same]
  refine ⟨fun r => ?_, ?_⟩
  · rw [State.cell_setCell_same (by rw [hmem]; exact State.wf_setCell hw), hlevel]
  · rw [State.cell_setCell_other (by decide), State.cell_congr (hmem _ _), State.cell_setCell_same hw]

/-- Settles O25: the scan row by row, then one event and its break. -/
theorem keyboardScanAndEvents : Obligations.KeyboardScanAndEvents := by
  refine ⟨fun v s hw hnone => ?_, fun e v more s hevents he hlt => ?_⟩
  · obtain ⟨hpia0, -⟩ := write8_portB v s
    obtain ⟨hA, hB⟩ := write8_portB_cells (v := v) hw
    rw [hnone, List.headD_nil, keyEvent_zero] at hpia0
    dsimp only
    refine ⟨by rw [hpia0], by rw [hpia0], by rw [hpia0], fun r => ?_, hA, hB,
      fun a ha => write8_cell ha (ne_of_isIo ha (by decide)) v s, write8_cpu _ _ _, write8_ctl _ _ _⟩
    rw [hpia0, scanRows_getLsbD, rowReads_iff]
  · obtain ⟨hpia0, hmore⟩ := write8_portB v s
    obtain ⟨hcode, hmake, hcode', hbreak, he'⟩ := makeBreak hlt
    rw [hevents, List.headD_cons] at hpia0
    rw [hevents, List.tail_cons] at hmore
    dsimp only
    refine ⟨hmore, fun hlast hkey => ?_, fun hkey => ?_, fun hlast => ?_, rfl⟩
    · rw [keyEvent_matrix he hcode hlast hkey, hmake] at hpia0
      simp only [Bool.false_eq_true, if_false] at hpia0
      refine ⟨?_, fun r hr => ?_, ?_, fun w rest hrest hall r => ?_⟩
      · rw [hpia0, RowCache.get_set, if_pos rfl]
      · rw [hpia0, RowCache.get_set, if_neg hr]
      · rw [hpia0]
      · rw [(write8_portB w _).1, hmore, hrest, List.headD_cons, keyEvent_matrix he' hcode' hlast hkey, hbreak, hpia0]
        simp only [if_true, RowCache.get_set]
        by_cases hr : r = (keymap e.toNat).1
        · rw [if_pos hr, hall]
          generalize (keymap e.toNat).2 = mask
          revert mask
          decide
        · rw [if_neg hr, if_neg hr, hall]
    · rw [keyEvent_function he hcode hkey, hmake] at hpia0
      simp only [Bool.false_eq_true, if_false] at hpia0
      refine ⟨by rw [hpia0], by rw [hpia0], fun w rest hrest => ?_⟩
      rw [(write8_portB w _).1, hmore, hrest, List.headD_cons, keyEvent_function he' hcode' hkey, hbreak, hpia0]
      rfl
    · rw [keyEvent_other (by omega)] at hpia0
      exact ⟨by rw [hpia0], by rw [hpia0]⟩

/-! ## The field sync -/

/-- A read of port B clears the flag and drops IRQ (48_dev_pia0.md R406). -/
theorem read8_portB (s : State) : read8 0xFF02 s =
    (s.cell 0xFF02, ((s.setCell 0xFF03 (s.cell 0xFF03 &&& 0x7F)).setIrq false).setCell 0xFF02 (s.cell 0xFF02)) :=
  read8_io (p := .pia0Pb) (by decide) s

theorem read8_portB_cells {s : State} (hw : s.mem.wf = true) :
    (read8 0xFF02 s).2.cell 0xFF03 = s.cell 0xFF03 &&& 0x7F ∧
    (∀ a, a ≠ 0xFF03 → (read8 0xFF02 s).2.cell a = s.cell a) := by
  rw [read8_portB]
  refine ⟨?_, fun a ha => ?_⟩
  · rw [State.cell_setCell_other (by decide)]
    exact State.cell_setCell_same hw
  · by_cases hB : a = 0xFF02
    · subst hB
      exact State.cell_setCell_same (State.wf_setCell hw)
    · rw [State.cell_setCell_other hB]
      exact State.cell_setCell_other ha

/-- The tick changes the flag and IRQ alone, and nothing where the field sync is off (48_dev_pia0.md R412). -/
theorem vsyncIrq_on {s : State} (h : s.pia0.fsEnable = true) :
    vsyncIrq s = (s.setCell 0xFF03 (s.cell 0xFF03 ||| 0x80)).setIrq true := if_pos h

theorem vsyncIrq_off {s : State} (h : s.pia0.fsEnable = false) : vsyncIrq s = s := if_neg (by simp [h])

theorem write8_crb (v : Byte) (s : State) : write8 0xFF03 v s = pia0CrbWrite v (s.setCell 0xFF03 v) :=
  write8_io (p := .pia0Crb) (by decide) v s

/-- Settles O26: with the enable on and with it off, then the acknowledge. -/
theorem fieldSyncIsSetAndAcknowledged : Obligations.FieldSyncIsSetAndAcknowledged := by
  intro v s hw
  have hflag (v : Byte) : (v ||| 0x80) &&& 0x7F = v &&& 0x7F := by
    revert v
    decide
  have hwcell : (write8 0xFF03 v s).cell 0xFF03 = v := by
    rw [write8_crb]
    exact State.cell_setCell_same hw
  have hwother (a : Word) (ha : a ≠ 0xFF03) : (write8 0xFF03 v s).cell a = s.cell a := by
    rw [write8_crb]
    exact State.cell_setCell_other ha
  have henable : (write8 0xFF03 v s).pia0.fsEnable = v.getLsbD 0 := by rw [write8_crb]; rfl
  have hwctl := write8_ctl 0xFF03 v s
  have hwcpu := write8_cpu 0xFF03 v s
  have hwwf := write8_wf hw 0xFF03 v
  dsimp only
  generalize write8 0xFF03 v s = w at *
  rw [← hwother 0xFF02 (by decide), ← hwctl, ← hwcpu]
  cases hon : v.getLsbD 0
  · rw [vsyncIrq_off (henable.trans hon)]
    obtain ⟨h03, hother⟩ := read8_portB_cells hwwf
    exact ⟨hwcell, rfl, henable.trans hon, nofun, fun _ => rfl, by rw [read8_portB], by rw [read8_portB]; rfl,
      by rw [h03, hwcell], fun a ha => (hother a ha).trans (hwother a ha), read8_cpu _ _⟩
  · rw [vsyncIrq_on (henable.trans hon), hwcell]
    have htcell : ((w.setCell 0xFF03 (v ||| 0x80)).setIrq true).cell 0xFF03 = v ||| 0x80 :=
      State.cell_setCell_same hwwf
    have htother (a : Word) (ha : a ≠ 0xFF03) : ((w.setCell 0xFF03 (v ||| 0x80)).setIrq true).cell a = w.cell a :=
      State.cell_setCell_other ha
    obtain ⟨h03, hother⟩ := read8_portB_cells (s := (w.setCell 0xFF03 (v ||| 0x80)).setIrq true)
      (State.wf_setCell hwwf)
    exact ⟨rfl, rfl, henable.trans hon, fun _ => ⟨rfl, htcell⟩, nofun,
      by rw [read8_portB]; exact htother _ (by decide), by rw [read8_portB]; rfl, by rw [h03, htcell, hflag],
      fun a ha => ((hother a ha).trans (htother a ha)).trans (hwother a ha), read8_cpu _ _⟩

/-! ## Port A -/

/-- The byte a read of port A answers, bit by bit (48_dev_pia0.md R402). -/
theorem portA_bits (level pressed : Bool) (rows : BitVec 7) :
    let v := comparatorBit level ||| rows.setWidth 8
    let w := if pressed then v &&& 0xFE else v
    w.getLsbD 7 = level ∧ (∀ k, 1 ≤ k → k ≤ 6 → w.getLsbD k = rows.getLsbD k) ∧
    w.getLsbD 0 = (rows.getLsbD 0 && !pressed) := by
  refine ⟨?_, fun k h1 h6 => ?_, ?_⟩
  case refine_2 => interval_cases k <;> revert level pressed rows <;> decide
  all_goals
    revert level pressed rows
    decide

/-- Settles O27: the answer is stored; the host's answers are used up. -/
theorem joystickAndRowsOnPortA : Obligations.JoystickAndRowsOnPortA := by
  intro level pressed ls ps s hw hlevel hpressed
  have hread : read8 0xFF00 s = ((pia0PaRead s).1, (pia0PaRead s).2.setCell 0xFF00 (pia0PaRead s).1) :=
    read8_io (p := .pia0Pa) (by decide) s
  have hport : pia0PaRead s =
      (if pressed then (comparatorBit level ||| s.pia0.rowScan.setWidth 8) &&& 0xFE
        else comparatorBit level ||| s.pia0.rowScan.setWidth 8,
        { s with host := { s.host with joystkComp := ls, rjoystkButton := ps } }) := by
    simp only [pia0PaRead, joystkComp, hlevel, rjoystkButton, hpressed]
  obtain ⟨h7, hmid, h0⟩ := portA_bits level pressed s.pia0.rowScan
  dsimp only
  rw [hread, hport]
  exact ⟨h7, hmid, h0, State.cell_setCell_same hw, fun a ha => State.cell_setCell_other ha, rfl, rfl, rfl, rfl⟩

end Sys2Proof.Machine
end

section
/-! SUPPORT. PIA1 (49_dev_pia1.md): the sound outputs it shares with PIA0, the cassette motor, the next octet and the
bit cell. -/

namespace Sys2Proof.Machine

-- Proofs are checked one after the other: those that wait for an earlier one would each hold a thread.
set_option Elab.async false

/-! ## Sound -/

/-- Bits 5..3 of a byte as a number. -/
theorem pattern_toNat (v : Byte) : (v.extractLsb' 3 3).toNat = v.toNat / 8 % 8 := by
  rw [BitVec.extractLsb'_toNat, Nat.shiftRight_eq_div_pow]

theorem pattern_iff (v : Byte) {n : Nat} (hn : n < 8) : v.extractLsb' 3 3 = BitVec.ofNat 3 n ↔ v.toNat / 8 % 8 = n := by
  rw [← BitVec.toNat_inj, pattern_toNat, BitVec.toNat_ofNat, Nat.mod_eq_of_lt hn]

/-- The state after a new audio-multiplexer selector has been told to the host (48_dev_pia0.md R404). -/
def putAudioMux (mux : BitVec 2) (s : State) : State :=
  ({ s with pia1 := { s.pia1 with audioMux := mux } }).emit (.audioMuxSet mux)

theorem audioMuxPattern_eq (bit : Nat) (v : Byte) (s : State) : audioMuxPattern bit v s =
    if v.toNat / 8 % 8 = 7 then putAudioMux (s.pia1.audioMux ||| (1#2 <<< bit)) s
    else if v.toNat / 8 % 8 = 6 then putAudioMux (s.pia1.audioMux &&& ~~~(1#2 <<< bit)) s
    else s := by
  simp only [← pattern_iff v (n := 7) (by decide), ← pattern_iff v (n := 6) (by decide)]
  rfl

/-- A bit of the selector, set or cleared. -/
theorem audioMux_bits (mux : BitVec 2) (bit : Fin 2) (k : Nat) (hk : k < 2) :
    (mux ||| (1#2 <<< bit.val)).getLsbD k = (mux.getLsbD k || k == bit.val) ∧
    (mux &&& ~~~(1#2 <<< bit.val)).getLsbD k = (mux.getLsbD k && k != bit.val) := by
  interval_cases k <;> revert mux bit <;> decide

/-- The writes of the two control registers that carry audio-multiplexer bits. -/
theorem write8_audioMux (p : Word × Nat) (hp : p ∈ [((0xFF01 : Word), 0), (0xFF23, 1)]) (v : Byte) (s : State) :
    write8 p.1 v s = audioMuxPattern p.2 v (s.setCell p.1 v) := by
  simp only [List.mem_cons, List.not_mem_nil, or_false] at hp
  obtain rfl | rfl := hp
  · exact write8_io (p := .pia0Cra) (by decide) v s
  · exact write8_io (p := .pia1Crb) (by decide) v s

/-- Settles O28: the DAC, then the three patterns of the multiplexer. -/
theorem soundOutputs : Obligations.SoundOutputs := by
  intro v s
  have hdac : write8 0xFF20 v s = pia1PaWrite v (s.setCell 0xFF20 v) := write8_io (p := .pia1Pa) (by decide) v s
  refine ⟨⟨v.extractLsb' 2 6, by rw [hdac]; rfl, ?_⟩, by rw [hdac]; rfl, fun p hp => ?_⟩
  · rw [BitVec.extractLsb'_toNat, Nat.shiftRight_eq_div_pow]
    omega
  · have hbit : p.2 < 2 := by
      simp only [List.mem_cons, List.not_mem_nil, or_false] at hp
      obtain rfl | rfl := hp <;> decide
    have hbits := audioMux_bits s.pia1.audioMux ⟨p.2, hbit⟩
    dsimp only
    rw [write8_audioMux p hp, audioMuxPattern_eq]
    split
    next h7 => exact ⟨fun _ => ⟨rfl, fun k hk => (hbits k hk).1⟩, by omega, by omega, rfl, rfl, rfl, rfl, rfl⟩
    next h7 =>
      split
      next h6 => exact ⟨by omega, fun _ => ⟨rfl, fun k hk => (hbits k hk).2⟩, by omega, rfl, rfl, rfl, rfl, rfl⟩
      next h6 => exact ⟨fun h => absurd h h7, fun h => absurd h h6, fun _ => ⟨rfl, rfl⟩, rfl, rfl, rfl, rfl, rfl⟩

/-! ## The cassette -/

theorem nextCasByte_eq (p : Pia1) : nextCasByte p =
    (((p.casFile.getD []).drop p.casPos).headD 0x55,
      { p with
        casPos := if p.casPos < (p.casFile.getD []).length then p.casPos + 1 else p.casPos }) := by
  rw [List.headD_eq_head?_getD, List.head?_drop]
  unfold nextCasByte
  split
  next hnone =>
    have hfile : p.casFile.getD [] = [] := by rw [hnone, Option.getD_none]
    simp [hfile]
  next file hsome =>
    have hfile : p.casFile.getD [] = file := by rw [hsome, Option.getD_some]
    rw [hfile]
    split
    next b hb => rw [hb, if_pos (List.getElem?_eq_some_iff.mp hb).1, Option.getD_some]
    next hb => rw [hb, if_neg (Nat.not_lt.mpr (List.getElem?_eq_none_iff.mp hb)), Option.getD_none]

/-- A read of port A: the level in bit 0, the cell in the others; the generator moves on (49_dev_pia1.md R433). -/
theorem read8_portA1 (s : State) : read8 0xFF20 s =
    ((pia1PaRead s).1, { s with pia1 := casAdvance (casSample (casRefill s.pia1)) }.setCell 0xFF20 (pia1PaRead s).1) :=
  read8_io (p := .pia1Pa) (by decide) s

theorem casThresholdOf_eq (octet : Byte) : casThresholdOf octet = if octet.toNat % 2 = 1 then 4 else 20 := by
  rw [casThresholdOf, BitVec.getLsbD, Nat.testBit_zero]
  simp only [decide_eq_true_eq]

/-- A change to the motor's pattern restarts the stream (49_dev_pia1.md R438). -/
theorem pia1CraWrite_motor {v : Byte} {s : State} (h : v.extractLsb' 3 3 = 7) (hprev : s.pia1.prevCraCa2 ≠ 7) :
    pia1CraWrite v s = { s with pia1 := { motorOn s.host.mountedCas s.pia1 with prevCraCa2 := 7 } } := by
  have hchange : v.extractLsb' 3 3 ≠ s.pia1.prevCraCa2 ∧ v.extractLsb' 3 3 = 7 := ⟨fun e => hprev (e.symm.trans h), h⟩
  rw [pia1CraWrite]
  simp only [if_pos hchange]
  rw [h]

theorem pia1CraWrite_other {v : Byte} {s : State} (h : v.extractLsb' 3 3 ≠ 7 ∨ s.pia1.prevCraCa2 = 7) :
    pia1CraWrite v s = { s with pia1 := { s.pia1 with prevCraCa2 := v.extractLsb' 3 3 } } := by
  have hno : ¬ (v.extractLsb' 3 3 ≠ s.pia1.prevCraCa2 ∧ v.extractLsb' 3 3 = 7) := by
    rintro ⟨hne, h7⟩
    obtain h | h := h
    · exact h h7
    · exact hne (h7.trans h.symm)
  simp only [pia1CraWrite]
  rw [if_neg hno]

/-- A sample that does not end its bit cell. -/
theorem casAdvance_within {p : Pia1} (h : p.casPhase ≠ 2 * p.casThreshold) : casAdvance p = p := if_neg h

theorem casRefill_within {p : Pia1} (h : p.casBitsLeft ≠ 0) : casRefill p = p := if_neg h

/-- Settles O29: the motor's transition by its two patterns; the first read of an octet refills. -/
theorem cassetteMotorAndNextOctet : Obligations.CassetteMotorAndNextOctet := by
  refine ⟨fun v s => ?_, fun s hleft hphase => ?_⟩
  · have h7 : v.extractLsb' 3 3 = 7 ↔ v.toNat / 8 % 8 = 7 := pattern_iff v (by decide)
    have hprev : s.pia1.prevCraCa2 = 7 ↔ s.pia1.prevCraCa2.toNat = 7 := BitVec.toNat_inj.symm
    dsimp only
    rw [write8_io (p := .pia1Cra) (by decide)]
    refine ⟨fun ⟨hv, hne⟩ => ?_, fun h => ?_, rfl, rfl, rfl, rfl⟩
    · rw [ioWrite, pia1CraWrite_motor (h7.mpr hv) (by exact fun h => hne (hprev.mp h))]
      rfl
    · rw [ioWrite, pia1CraWrite_other (s := s.setCell 0xFF21 v) (h.imp (fun h e => h (h7.mp e)) hprev.mpr)]
      rfl
  · have hthreshold (octet : Byte) : 0 < casThresholdOf octet := by
      rw [casThresholdOf]
      split <;> decide
    have hsampled : casSample (casRefill s.pia1) =
        { (nextCasByte s.pia1).2 with
          casOctet := (nextCasByte s.pia1).1
          casBitsLeft := 9
          casThreshold := casThresholdOf (nextCasByte s.pia1).1
          casPhase := 1
          casOut := false } := by
      rw [casRefill_eq, if_pos hleft, casSample, nextCasByte_eq]
      have := hthreshold (((s.pia1.casFile.getD []).drop s.pia1.casPos).headD 0x55)
      simp only [hphase, decide_eq_false (Nat.not_lt.mpr this)]
    have hpia1 : (read8 0xFF20 s).2.pia1 = casSample (casRefill s.pia1) := by
      rw [read8_portA1, hsampled]
      refine casAdvance_within ?_
      have := hthreshold (nextCasByte s.pia1).1
      simp only
      omega
    dsimp only
    rw [hpia1, hsampled, nextCasByte_eq]
    exact ⟨rfl, rfl, rfl, rfl, casThresholdOf_eq _, rfl, rfl⟩

/-! ## A bit cell -/

theorem portReads_succ (n : Nat) (s : State) : portReads (n + 1) s = (read8 0xFF20 (portReads n s)).2 := by
  induction n generalizing s with
  | zero => rfl
  | succ n ih => exact ih (read8 0xFF20 s).2

/-- The byte a read answers, bit by bit. -/
theorem sampledByte_bits (b : Byte) (level : Bool) :
    (b &&& 0xFE ||| (if level then 1 else 0)).getLsbD 0 = level ∧
    ∀ k, 1 ≤ k → k < 8 → (b &&& 0xFE ||| (if level then 1 else 0)).getLsbD k = b.getLsbD k := by
  refine ⟨?_, fun k h1 h8 => ?_⟩
  case refine_2 => interval_cases k <;> revert b level <;> decide
  revert b level
  decide

/-- A read inside a bit cell: the sample of the next phase; the cell keeps the bits last written. -/
theorem read8_inCell {s : State} (hleft : s.pia1.casBitsLeft ≠ 0) :
    (read8 0xFF20 s).1.getLsbD 0 = decide (s.pia1.casThreshold < s.pia1.casPhase + 1) ∧
    (∀ k, 1 ≤ k → k < 8 → (read8 0xFF20 s).1.getLsbD k = (s.cell 0xFF20).getLsbD k) ∧
    (s.mem.wf = true → (read8 0xFF20 s).2.cell 0xFF20 = (read8 0xFF20 s).1) ∧
    (read8 0xFF20 s).2.pia1 = casAdvance (casSample s.pia1) := by
  obtain ⟨h0, hrest⟩ := sampledByte_bits (s.cell 0xFF20) (casSample s.pia1).casOut
  rw [read8_portA1]
  simp only [pia1PaRead, casRefill_within hleft]
  exact ⟨h0, hrest, fun hw => State.cell_setCell_same hw, rfl⟩

/-- `n` reads into a bit cell: the phase counts them, and nothing else of the generator but its level moves. -/
theorem portReads_inCell {s : State} (hw : s.mem.wf = true) (hphase : s.pia1.casPhase = 0)
    (hleft : s.pia1.casBitsLeft ≠ 0) {n : Nat} (hn : n < 2 * s.pia1.casThreshold) :
    (∃ level, (portReads n s).pia1 = { s.pia1 with casPhase := n, casOut := level }) ∧
    (∀ k, 1 ≤ k → k < 8 → ((portReads n s).cell 0xFF20).getLsbD k = (s.cell 0xFF20).getLsbD k) ∧
    (portReads n s).mem.wf = true := by
  induction n with
  | zero =>
    have hzero : s.pia1 = { s.pia1 with casPhase := 0, casOut := s.pia1.casOut } := by rw [← hphase]
    exact ⟨⟨s.pia1.casOut, hzero⟩, fun _ _ _ => rfl, hw⟩
  | succ n ih =>
    obtain ⟨⟨level, hpia1⟩, hcell, hwf⟩ := ih (by omega)
    obtain ⟨-, hbits, hstored, hnext⟩ := read8_inCell (s := portReads n s) (by rw [hpia1]; exact hleft)
    rw [portReads_succ, hnext, hstored hwf, hpia1]
    refine ⟨⟨_, casAdvance_within ?_⟩, fun k h1 h8 => (hbits k h1 h8).trans (hcell k h1 h8), read8_wf hwf _⟩
    simp only [casSample]
    omega

theorem portReads_cpu (n : Nat) (s : State) :
    (portReads n s).cpu = s.cpu ∧ (portReads n s).ctl = s.ctl := by
  induction n with
  | zero => exact ⟨rfl, rfl⟩
  | succ n ih =>
    rw [portReads_succ, read8_cpu, read8_portA1]
    exact ih

/-- Settles O30: the reads inside the cell, then the last one, which advances the octet. -/
theorem cassetteBitCell : Obligations.CassetteBitCell := by
  intro n s hw hsound hphase hleft
  obtain ⟨hthreshold, -⟩ := hsound
  refine ⟨fun hn => ?_, fun hn => ?_, portReads_cpu n s⟩
  · obtain ⟨⟨level, hpia1⟩, hcell, -⟩ := portReads_inCell hw hphase hleft hn
    obtain ⟨h0, hbits, -⟩ := read8_inCell (s := portReads n s) (by rw [hpia1]; exact hleft)
    rw [hpia1] at h0
    exact ⟨h0.trans (decide_eq_decide.mpr Nat.lt_succ_iff), fun k h1 h8 => (hbits k h1 h8).trans (hcell k h1 h8)⟩
  · obtain ⟨m, rfl⟩ : ∃ m, n = m + 1 := ⟨n - 1, by omega⟩
    obtain ⟨⟨level, hpia1⟩, -⟩ := portReads_inCell hw hphase hleft (n := m) (by omega)
    obtain ⟨-, -, -, hnext⟩ := read8_inCell (s := portReads m s) (by rw [hpia1]; exact hleft)
    rw [portReads_succ, hnext, hpia1, casAdvance, if_pos (by exact hn)]
    have hhalf : (s.pia1.casOctet >>> 1).toNat = s.pia1.casOctet.toNat / 2 := by
      rw [BitVec.toNat_ushiftRight, Nat.shiftRight_eq_div_pow, pow_one]
    refine ⟨rfl, hhalf, rfl, fun hmore => ?_⟩
    rw [← hhalf, ← casThresholdOf_eq]
    exact if_neg (by simp only [casSample]; omega)

end Sys2Proof.Machine
end

section
/-! SUPPORT. The picture of a render (47_dev_vdg.md R376..R380): which pixel of the source each dot of the framebuffer
shows. -/

namespace Sys2Proof.Machine

-- Proofs are checked one after the other: those that wait for an earlier one would each hold a thread.
set_option Elab.async false

/-- A pixel's byte and its place in it, for lines of whole bytes of `d` pixels: the same by line and in raster order. -/
theorem raster {w d : Nat} (hd : d ∣ w) (k : Nat) : k % w / d + k / w * (w / d) = k / d ∧ k % w % d = k % d := by
  refine ⟨?_, Nat.mod_mod_of_dvd k hd⟩
  obtain ⟨c, rfl⟩ := hd
  obtain rfl | hpos := Nat.eq_zero_or_pos d
  · simp
  · rw [Nat.mul_div_cancel_left c hpos, ← Nat.add_mul_div_left _ _ hpos]
    congr 1
    calc k % (d * c) + d * (k / (d * c) * c) = k % (d * c) + d * c * (k / (d * c)) := by ring
      _ = k := Nat.mod_add_div k (d * c)

/-- Dot `k` of a framebuffer of the picture's own size is the pixel in its column and row. -/
theorem picture_source (s : State) {g : Geometry} (hw : 0 < g.width) (hh : 0 < g.height) {k : Nat}
    (hk : k < g.width * g.height) :
    ((List.range (g.width * g.height)).map fun k =>
      scaledPixel s g g.width g.height (k % g.width) (k / g.width))[k]? =
      some (sourcePixel s g (k % g.width) (k / g.width)) := by
  rw [painted_dot _ hk, scaledPixel_source s hw hh]

/-- A pixel of a two-bit mode (47_dev_vdg.md R379). -/
theorem sourcePixel_two (s : State) {w : Nat} (hw : 4 ∣ w) (h k : Nat) :
    sourcePixel s (.pixels w h 2) (k % w) (k / w) =
      Config.gfxColours s.vdg.mode (Fin.ofNat 8 (s.vdg.css.toNat * 4 +
        ((s.cell (s.vdg.displayBase + BitVec.ofNat 16 (k / 4))).extractLsb' (6 - 2 * (k % 4)) 2).toNat)) := by
  obtain ⟨hbyte, hplace⟩ := raster hw k
  simp only [sourcePixel, gfxPalette, if_true, Nat.reduceDiv, hbyte, hplace, vram]
  rw [pixelValue_two _ (Nat.mod_lt k (by decide))]

/-- A pixel of a one-bit mode (47_dev_vdg.md R379). -/
theorem sourcePixel_one (s : State) {w : Nat} (hw : 8 ∣ w) (h k : Nat) :
    sourcePixel s (.pixels w h 1) (k % w) (k / w) =
      Config.gfxPairs s.vdg.mode s.vdg.css
        ((s.cell (s.vdg.displayBase + BitVec.ofNat 16 (k / 8))).getLsbD (7 - k % 8)) := by
  obtain ⟨hbyte, hplace⟩ := raster hw k
  simp only [sourcePixel, gfxPalette, Nat.reduceDiv, hbyte, hplace, vram]
  rw [if_neg (by decide)]
  exact congrArg _ (pixelValue_one _ ⟨k % 8, Nat.mod_lt k (by decide)⟩)

/-- A dot of a text cell by its byte's two high bits (47_dev_vdg.md R378). -/
theorem textCell_dot (css : Bool) (c : Byte) (x : Fin 8) (y : Fin 12) :
    (textCell css c).dot x y =
      if 128 ≤ c.toNat then
        if Config.sg4Bitmap (c.extractLsb' 0 4) x y then Config.sgColors (c.extractLsb' 4 3) else 0
      else if Config.font (c.extractLsb' 0 6) x y = decide (c.toNat < 64) then (Config.textColors css).1
      else (Config.textColors css).2 := by
  have h7 : c.getLsbD 7 = decide (128 ≤ c.toNat) := by
    revert c
    decide
  have h6 (h : ¬ 128 ≤ c.toNat) : c.getLsbD 6 = decide (64 ≤ c.toNat) := by
    revert c
    decide
  unfold textCell
  rw [h7]
  by_cases hblocks : 128 ≤ c.toNat
  · simp only [hblocks, decide_true, if_true, TextCell.dot]
  · rw [h6 hblocks]
    by_cases hinverse : 64 ≤ c.toNat
    · simp only [hblocks, hinverse, decide_false, decide_true, Bool.false_eq_true, if_false, if_true, TextCell.dot,
        decide_eq_false (Nat.not_lt.mpr hinverse)]
      cases Config.font (c.extractLsb' 0 6) x y <;> rfl
    · simp only [hblocks, hinverse, decide_false, Bool.false_eq_true, if_false, TextCell.dot,
        decide_eq_true (Nat.lt_of_not_le hinverse)]

theorem sourcePixel_text (s : State) (col : Fin 32) (row : Fin 16) (x : Fin 8) (y : Fin 12) :
    sourcePixel s (.cells 32 16) (col * 8 + x) (row * 12 + y) =
      (textCell s.vdg.css (s.cell (s.vdg.displayBase + BitVec.ofNat 16 (col + row * 32)))).dot x y := by
  have hcol : (col.val * 8 + x.val) / 8 = col.val ∧ (col.val * 8 + x.val) % 8 = x.val := by omega
  have hrow : (row.val * 12 + y.val) / 12 = row.val ∧ (row.val * 12 + y.val) % 12 = y.val := by omega
  have hx : Fin.ofNat 8 x.val = x := Fin.ofNat_val_eq_self x
  have hy : Fin.ofNat 12 y.val = y := Fin.ofNat_val_eq_self y
  simp only [sourcePixel, vram, hcol, hrow, hx, hy]

/-! ## Rendering -/

/-- A mode with a geometry is painted over the negotiated framebuffer. -/
theorem render_geometry {s : State} {g : Geometry} (h : geometry s.vdg.mode = some g) :
    render s = .next (paint (scaledPixel s g) (negotiate s)) := by
  rw [render, painter_geometry h]

/-- Every picture is painted by some painter over the negotiated framebuffer. -/
theorem render_next {s t : State} (h : render s = .next t) : ∃ p, t = paint p (negotiate s) := by
  unfold render at h
  split at h
  next p hp =>
    cases h
    exact ⟨p, rfl⟩
  next => cases h

/-- What a render changes: the record of the mode, the framebuffer, the log. -/
theorem render_frame {s t : State} (h : render s = .next t) :
    t.cpu = s.cpu ∧ t.ctl = s.ctl ∧ t.dbg = s.dbg ∧ t.mem = s.mem ∧ t.sam = s.sam ∧
      t.vdg = { s.vdg with prevMode := s.vdg.mode } ∧ t.pia0 = s.pia0 ∧ t.pia1 = s.pia1 ∧
      t.host = { s.host with fb := t.host.fb } ∧ t.draws = s.draws ∧ t.host.fb.palette = s.host.fb.palette ∧
      (t.host.fb.width, t.host.fb.height) =
        (if s.vdg.mode = s.vdg.prevMode then (s.host.fb.width, s.host.fb.height) else Config.fbRes s.vdg.mode) := by
  obtain ⟨p, rfl⟩ := render_next h
  obtain ⟨w, h, picture, out, hneg, hsize⟩ := negotiate_eq s
  rw [hneg]
  exact ⟨rfl, rfl, rfl, rfl, rfl, rfl, rfl, rfl, rfl, rfl, rfl, hsize⟩

/-- In a mode with a geometry, a framebuffer of the source size shows the source (47_dev_vdg.md R376). -/
theorem render_source {s t : State} (ht : render s = .next t) {g : Geometry} (hg : geometry s.vdg.mode = some g)
    {picture : List PaletteIndex} (hp : t.host.fb.picture = some picture) (hw : t.host.fb.width = g.width)
    (hh : t.host.fb.height = g.height) {k : Nat} (hk : k < g.width * g.height) :
    picture[k]? = some (sourcePixel s g (k % g.width) (k / g.width)) := by
  rw [render_geometry hg] at ht
  cases ht
  change (negotiate s).host.fb.width = g.width at hw
  change (negotiate s).host.fb.height = g.height at hh
  rw [paint_picture, hw, hh] at hp
  cases hp
  have hpos : 0 < g.width * g.height := by omega
  exact picture_source s (Nat.pos_of_mul_pos_right hpos) (Nat.pos_of_mul_pos_left hpos) hk

/-- Settles O31: the stops, the frame, and the source pixel of each kind of mode. -/
theorem renderPaintsOrStops : Obligations.RenderPaintsOrStops := by
  intro s
  refine ⟨fun hmode => ?_, fun hmode => ?_, fun t ht => ?_⟩
  · have hnone : painter s = none := by
      simp only [List.mem_cons, List.not_mem_nil, or_false] at hmode
      obtain h | h | h := hmode <;> simp only [painter, h, geometry, Option.map_none]
    rw [render, hnone]
  · have hgeometry : ∃ g, geometry s.vdg.mode = some g := by
      simp only [List.mem_cons, List.not_mem_nil, or_false] at hmode
      obtain h | h | h | h | h | h | h | h | h := hmode <;> exact ⟨_, by rw [h]; rfl⟩
    obtain ⟨g, hg⟩ := hgeometry
    exact ⟨_, render_geometry hg⟩
  · obtain ⟨h1, h2, h3, h4, h5, h6, h7, h8, h9, h10, h11, h12⟩ := render_frame ht
    have hpicture : ∃ picture, t.host.fb.picture = some picture ∧
        picture.length = t.host.fb.width * t.host.fb.height := by
      obtain ⟨p, rfl⟩ := render_next ht
      exact ⟨_, paint_picture p _, by rw [List.length_map, List.length_range]; rfl⟩
    obtain ⟨picture, hp, hlength⟩ := hpicture
    refine ⟨h1, h2, h3, h4, h5, h6, h7, h8, h9, h10, h11, h12, picture, hp, hlength, fun g hg hmode hw hh k hk => ?_,
      fun g hg hmode hw hh k hk => ?_, fun hmode hw hh col row x y => ?_⟩
    · have hrow : geometry g.1 = some (.pixels g.2.1 g.2.2 2) ∧ 4 ∣ g.2.1 := by
        clear hmode hw hh hk
        revert g
        decide
      rw [render_source ht (g := .pixels g.2.1 g.2.2 2) (hmode ▸ hrow.1) hp hw hh hk]
      exact congrArg some ((sourcePixel_two s hrow.2 _ k).trans (by rw [hmode]))
    · have hrow : geometry g.1 = some (.pixels g.2.1 g.2.2 1) ∧ 8 ∣ g.2.1 := by
        clear hmode hw hh hk
        revert g
        decide
      rw [render_source ht (g := .pixels g.2.1 g.2.2 1) (hmode ▸ hrow.1) hp hw hh hk]
      exact congrArg some ((sourcePixel_one s hrow.2 _ k).trans (by rw [hmode]))
    · have hg : geometry s.vdg.mode = some (.cells 32 16) := by rw [hmode]; rfl
      have hcol : ((row.val * 12 + y) * 256 + col * 8 + x) % 256 = col * 8 + x := by omega
      have hrow : ((row.val * 12 + y) * 256 + col * 8 + x) / 256 = row * 12 + y := by omega
      rw [render_source ht hg hp hw hh (by simp only [Geometry.width, Geometry.height]; omega)]
      simp only [Geometry.width, Nat.reduceMul, hcol, hrow]
      rw [sourcePixel_text, textCell_dot]

end Sys2Proof.Machine
end

section
/-! SUPPORT. Effective addresses as numbers, what addressing leaves unchanged, and what an operand is
(40_addressing_modes.md). -/

namespace Sys2Proof.Machine

-- Proofs are checked one after the other: those that wait for an earlier one would each hold a thread.
set_option Elab.async false

/-! ## Offsets -/

/-- An address with a signed offset, modulo 65,536. -/
theorem add_toInt (a w : Word) : ((a + w).toNat : Int) = (a.toNat + w.toInt) % 65536 := by
  rw [BitVec.toNat_add, BitVec.toInt_eq_toNat_cond]
  split <;> omega

theorem sext8_toInt (v : Byte) : (sext8 v).toInt = v.toInt := BitVec.toInt_signExtend_of_le (by decide)

theorem sext5_toInt (v : BitVec 5) : (sext5 v).toInt = v.toInt := BitVec.toInt_signExtend_of_le (by decide)

theorem sub_toNat (a w : Word) : ((a - w).toNat : Int) = ((a.toNat : Int) - w.toNat) % 65536 := by
  rw [BitVec.toNat_sub]
  omega

/-! ## Register side effects -/

theorem State.idx_setIdx (s : State) (r q : IdxReg) (w : Word) :
    (s.setIdx r w).idx q = if q = r then w else s.idx q := by
  cases r <;> cases q <;> rfl

theorem State.idx_congr {s t : State} (h : t.cpu = s.cpu) (q : IdxReg) : t.idx q = s.idx q := by
  cases q <;> simp only [State.idx, h]

/-- Only the auto forms move a register (40_addressing_modes.md R130..R133). -/
theorem autoUpdate_idx (r q : IdxReg) (f : Submode) (s : State) :
    ((autoUpdate r f s).idx q).toNat =
      if q = r then
        match f with
        | .postInc1 => ((s.idx r).toNat + 1) % 65536
        | .postInc2 => ((s.idx r).toNat + 2) % 65536
        | .preDec1 => ((s.idx r).toNat + 65535) % 65536
        | .preDec2 => ((s.idx r).toNat + 65534) % 65536
        | _ => (s.idx r).toNat
      else (s.idx q).toNat := by
  split
  next h =>
    subst h
    cases f <;> simp only [autoUpdate, State.idx_setIdx, if_true] <;> bv_omega
  next h => cases f <;> simp only [autoUpdate, State.idx_setIdx, if_neg h]

@[simp] theorem afterAuto_cell (m : Mem) (s : State) (a : Word) : (afterAuto m s).cell a = s.cell a := by
  unfold afterAuto
  split
  next => exact autoUpdate_cell ..
  all_goals rfl

/-- The pointer is read after the register has moved, and moves none (40_addressing_modes.md R143, R146). -/
theorem ea_cpu (m : Mem) (s : State) : (ea m s).2.cpu = (afterAuto m s).cpu := by
  cases m with
  | direct | extended => rfl
  | indexed ix =>
    cases ix with
    | off5 => rfl
    | sub r ind f =>
      cases ind
      · rfl
      · exact memRead16_cpu _ _

/-- A pointer in plain cells is the word there, and reading it does nothing. -/
theorem eaIndexed_pointer {r : IdxReg} {f : Submode} {s : State} (h : PointerPlain (.indexed (.sub r true f)) s) :
    ea (.indexed (.sub r true f)) s = (s.word (formAddress r f s), autoUpdate r f s) := by
  show memRead16 (formAddress r f s) (autoUpdate r f s) = _
  rw [memRead16_plain h.1 h.2, State.word, autoUpdate_cell, autoUpdate_cell]

theorem ea_plain {m : Mem} {s : State} (h : PointerPlain m s) : (ea m s).2 = afterAuto m s := by
  cases m with
  | direct | extended => rfl
  | indexed ix =>
    cases ix with
    | off5 => rfl
    | sub r ind f =>
      cases ind
      · rfl
      · rw [eaIndexed_pointer h]; rfl

/-- Settles O32: each form is a register and an offset. -/
theorem effectiveAddressForms : Obligations.EffectiveAddressForms := by
  intro s r
  dsimp only
  refine ⟨fun d => join_toNat _ _, fun a => rfl, fun n => ?_, rfl, rfl, sub_toNat _ 1, sub_toNat _ 2, rfl, ?_, ?_, ?_,
    fun n => ?_, fun n => add_toInt _ n, fun n => ?_, fun n => add_toInt _ n, fun a => rfl, fun f h => ?_⟩
  · rw [← sext5_toInt]; exact add_toInt _ _
  · rw [← sext8_toInt]; exact add_toInt _ _
  · rw [← sext8_toInt]; exact add_toInt _ _
  · have hd : s.d.toNat = s.cpu.a.toNat * 256 + s.cpu.b.toNat := join_toNat _ _
    show ((s.idx r + s.d).toNat : Int) = _
    rw [BitVec.toNat_add, hd]
    omega
  · rw [← sext8_toInt]; exact add_toInt _ _
  · rw [← sext8_toInt]; exact add_toInt _ _
  · rw [eaIndexed_pointer h]; rfl

/-- Settles O33: the registers are those of the auto form, whatever the pointer's cells do. -/
theorem addressingSideEffects : Obligations.AddressingSideEffects := by
  intro m s
  refine ⟨ea_cpu m s, ea_dbg m s, fun a ha => ea_cell ha m s, ?_, ea_plain, fun r f ind q hm => ?_⟩
  · simpa using ((Moves.refl (s := s)).ea m).ctl.1
  · subst hm
    rw [State.idx_congr (ea_cpu _ s)]
    exact autoUpdate_idx r q f s

/-- Settles O34: an operand is a read at the effective address. -/
theorem operandValues : Obligations.OperandValues := by
  refine ⟨fun v s => rfl, fun v s => rfl, fun m s hp => ⟨fun h => ?_, fun h h' => ?_⟩,
    fun m s => ⟨?_, operand8_cell _ s, ?_, operand16_cell _ s⟩⟩
  · rw [operand8, read8_plain h, ea_plain hp, afterAuto_cell]
  · rw [operand16, memRead16_plain h h', ea_plain hp, afterAuto_cell, afterAuto_cell, State.word]
  · exact (read8_cpu _ _).trans (ea_cpu m s)
  · exact (memRead16_cpu _ _).trans (ea_cpu m s)

end Sys2Proof.Machine
end

section
/-! SUPPORT. Loads, stores, transfers (41_load_store_transfer.md): the shapes the instructions share, each said once by
the value it computes, the flags, and what is left when both are restored. -/

namespace Sys2Proof.Machine

-- Proofs are checked one after the other: those that wait for an earlier one would each hold a thread.
set_option Elab.async false

/-! ## Writing back what a state held -/

@[simp] theorem State.setAcc_setAcc_acc (s : State) (r : Acc) (v : Byte) : (s.setAcc r v).setAcc r (s.acc r) = s := by
  cases r <;> rfl

theorem State.setAcc_acc (s : State) (r : Acc) : s.setAcc r (s.acc r) = s := by cases r <;> rfl

theorem State.setAcc_setCC (s : State) (r : Acc) (v : Byte) (c : CC) :
    (s.setCC c).setAcc r v = (s.setAcc r v).setCC c := by cases r <;> rfl

@[simp] theorem State.acc_setCC (s : State) (r : Acc) (c : CC) : (s.setCC c).acc r = s.acc r := by cases r <;> rfl

theorem State.setCC_own {s : State} {c : CC} (h : s.cpu.cc = c) : s.setCC c = s := by rw [← h]; rfl

/-- An accumulator and CC written, then restored. -/
theorem State.acc_restored {q : State} {c : CC} (h : q.cpu.cc = c) (r : Acc) (v : Byte) (d : CC) :
    (((q.setAcc r v).setCC d).setAcc r (q.acc r)).setCC c = q := by
  rw [State.setAcc_setCC, State.setAcc_setAcc_acc, State.setCC_setCC, State.setCC_own h]

theorem State.wide_restored {q : State} {c : CC} (h : q.cpu.cc = c) (r : Wide) (w : Word) (d : CC) :
    (((q.setWide r w).setCC d).setWide r (q.wide r)).setCC c = q := by
  rw [State.setWide_setCC, State.setWide_setWide_wide, State.setCC_setCC, State.setCC_own h]

/-! ## What operands leave alone -/

theorem ea_acc (m : Mem) (s : State) (r : Acc) : (ea m s).2.acc r = s.acc r := by
  obtain ⟨-, ha, hb, -⟩ := ea_regs m s
  cases r
  · exact ha
  · exact hb

theorem operand8_cc (o : Src8) (s : State) : (operand8 o s).2.cpu.cc = s.cpu.cc := (operand8_regs o s).1

theorem operand8_acc (o : Src8) (s : State) (r : Acc) : (operand8 o s).2.acc r = s.acc r := by
  obtain ⟨-, ha, hb, -⟩ := operand8_regs o s
  cases r
  · exact ha
  · exact hb

theorem operand16_cc (o : Src16) (s : State) : (operand16 o s).2.cpu.cc = s.cpu.cc := (operand16_regs o s).1

theorem operand16_d (o : Src16) (s : State) : (operand16 o s).2.d = s.d := by
  obtain ⟨-, ha, hb, -⟩ := operand16_regs o s
  rw [State.d, State.d, ha, hb]

/-! ## The shapes of accumulator and word instructions -/

theorem accOp_acc (f : Byte → Byte → CC → Byte × CC) (r : Acc) (o : Src8) (s : State) :
    (accOp f r o s).acc r = (f (s.acc r) (operand8 o s).1 s.cpu.cc).1 := by
  rw [accOp, State.acc_setCC, State.acc_setAcc, operand8_acc, operand8_cc]

theorem accOp_cc (f : Byte → Byte → CC → Byte × CC) (r : Acc) (o : Src8) (s : State) :
    (accOp f r o s).cpu.cc = (f (s.acc r) (operand8 o s).1 s.cpu.cc).2 := by
  rw [accOp, State.setCC_cpu, operand8_acc, operand8_cc]

theorem accOp_restored (f : Byte → Byte → CC → Byte × CC) (r : Acc) (o : Src8) (s : State) :
    ((accOp f r o s).setAcc r (s.acc r)).setCC s.cpu.cc = (operand8 o s).2 := by
  rw [← operand8_acc o s r]
  exact State.acc_restored (operand8_cc o s) r _ _

theorem wideOp_wide (f : Word → Word → CC → Word × CC) (r : Wide) (o : Src16) (s : State) :
    (wideOp f r o s).wide r = (f ((operand16 o s).2.wide r) (operand16 o s).1 s.cpu.cc).1 := by
  rw [wideOp, State.wide_setCC, State.wide_setWide, operand16_cc]

theorem wideOp_cc (f : Word → Word → CC → Word × CC) (r : Wide) (o : Src16) (s : State) :
    (wideOp f r o s).cpu.cc = (f ((operand16 o s).2.wide r) (operand16 o s).1 s.cpu.cc).2 := by
  rw [wideOp, State.setCC_cpu, operand16_cc]

theorem wideOp_restored (f : Word → Word → CC → Word × CC) (r : Wide) (o : Src16) (s : State) :
    ((wideOp f r o s).setWide r ((operand16 o s).2.wide r)).setCC s.cpu.cc = (operand16 o s).2 :=
  State.wide_restored (operand16_cc o s) r _ _

/-- The flags of a value moved: N and Z of it, V = 0, the others kept. -/
theorem move8_flags (v : Byte) (cc : CC) :
    SignZero8 v (move8 v cc) ∧ (move8 v cc).v = false ∧ (move8 v cc).c = cc.c ∧ (move8 v cc).h = cc.h ∧
    SameMasks cc (move8 v cc) :=
  ⟨signZero8 v, rfl, rfl, rfl, rfl, rfl, rfl⟩

theorem move16_flags (w : Word) (cc : CC) :
    SignZero16 w (move16 w cc) ∧ (move16 w cc).v = false ∧ (move16 w cc).c = cc.c ∧ (move16 w cc).h = cc.h ∧
    SameMasks cc (move16 w cc) :=
  ⟨⟨sign16 w, zero16 w⟩, rfl, rfl, rfl, rfl, rfl, rfl⟩

/-! ## Loads -/

/-- A load is the operation that answers its operand. -/
theorem load8_eq (r : Acc) (o : Src8) (s : State) : load8 r o s = accOp (fun _ m cc => (m, move8 m cc)) r o s := rfl

theorem load16_eq (r : Wide) (o : Src16) (s : State) :
    load16 r o s = wideOp (fun _ w cc => (w, move16 w cc)) r o s := rfl

/-- What a byte load does, whatever its accumulator. -/
theorem load8_result (r : Acc) (o : Src8) (s : State) :
    (load8 r o s).acc r = (operand8 o s).1 ∧ (load8 r o s).cpu.cc = move8 (operand8 o s).1 s.cpu.cc ∧
    ((load8 r o s).setAcc r (s.acc r)).setCC s.cpu.cc = (operand8 o s).2 := by
  rw [load8_eq]
  exact ⟨accOp_acc _ r o s, accOp_cc _ r o s, accOp_restored _ r o s⟩

/-- What a word load does, whatever its register. -/
theorem load16_result (r : Wide) (o : Src16) (s : State) :
    (load16 r o s).wide r = (operand16 o s).1 ∧ (load16 r o s).cpu.cc = move16 (operand16 o s).1 s.cpu.cc ∧
    ((load16 r o s).setWide r ((operand16 o s).2.wide r)).setCC s.cpu.cc = (operand16 o s).2 := by
  rw [load16_eq]
  exact ⟨wideOp_wide _ r o s, wideOp_cc _ r o s, wideOp_restored _ r o s⟩

/-- Settles O35: both are `load8`. -/
theorem loadAccumulatorResult : Obligations.LoadAccumulatorResult := by
  intro p hp o s
  have hexec : exec (p.1 o) s = .next (load8 p.2 o s) := by
    simp only [List.mem_cons, List.not_mem_nil, or_false] at hp
    obtain rfl | rfl := hp <;> rfl
  obtain ⟨hacc, hcc, hrestored⟩ := load8_result p.2 o s
  obtain ⟨hsz, hv, hc, hh, hmasks⟩ := move8_flags (operand8 o s).1 s.cpu.cc
  rw [← hcc] at hsz hv hc hh hmasks
  rw [← operand8_acc o] at hrestored
  exact ⟨_, hexec, hacc, hsz, hv, hc, hh, hmasks, hrestored, fun a ha => load8_cell ha p.2 o s⟩

/-- Settles O36: all five are `load16`; LDS arms the NMI. -/
theorem loadWordResult : Obligations.LoadWordResult := by
  intro p hp o s
  obtain ⟨hwide, hcc, hrestored⟩ := load16_result p.2 o s
  obtain ⟨hsz, hv, hc, hh, hmasks⟩ := move16_flags (operand16 o s).1 s.cpu.cc
  rw [← hcc] at hsz hv hc hh hmasks
  simp only [List.mem_cons, List.not_mem_nil, or_false] at hp
  rcases hp with rfl | rfl | rfl | rfl | rfl
  case inr.inr.inr.inr =>
    exact ⟨_, rfl, hwide, hsz, hv, hc, hh, hmasks, congrArg State.armNmi hrestored,
      fun _ ha => load16_cell ha .s o s⟩
  all_goals exact ⟨_, rfl, hwide, hsz, hv, hc, hh, hmasks, hrestored, fun _ ha => load16_cell ha _ o s⟩

/-! ## Stores -/

/-- A store is a write at the effective address, and the flags of what was written. -/
theorem store8_eq (r : Acc) (m : Mem) (s : State) :
    store8 r m s = (write8 (ea m s).1 (s.acc r) (ea m s).2).setCC (move8 (s.acc r) s.cpu.cc) := by
  rw [store8]
  simp only [ea_acc, write8_cpu, ea_cc]

theorem store16_eq (r : Wide) (m : Mem) (s : State) :
    store16 r m s = (memWrite16 (ea m s).1 ((ea m s).2.wide r) (ea m s).2).setCC
      (move16 ((ea m s).2.wide r) s.cpu.cc) := by
  rw [store16]
  simp only [memWrite16_cpu, ea_cc]

/-- Settles O37: both are `store8`. -/
theorem storeAccumulatorResult : Obligations.StoreAccumulatorResult := by
  intro p hp m s
  have hexec : exec (p.1 m) s = .next (store8 p.2 m s) := by
    simp only [List.mem_cons, List.not_mem_nil, or_false] at hp
    obtain rfl | rfl := hp <;> rfl
  rw [store8_eq] at hexec
  obtain ⟨hsz, hv, hc, hh, hmasks⟩ := move8_flags (s.acc p.2) s.cpu.cc
  have hown : (write8 (ea m s).1 (s.acc p.2) (ea m s).2).setCC s.cpu.cc = write8 (ea m s).1 (s.acc p.2) (ea m s).2 :=
    State.setCC_own (by rw [write8_cpu, ea_cc])
  refine ⟨_, hexec, hown, hsz, hv, hc, hh, hmasks, (congrArg State.cpu hown).trans (write8_cpu ..),
    fun hw hram => ?_, fun a ha hne => ?_⟩
  · exact write8_cell_same (ea_wf hw m) hram _
  · exact (write8_cell ha hne _ _).trans (ea_cell ha m s)

/-- Settles O38: all five are `store16`. -/
theorem storeWordResult : Obligations.StoreWordResult := by
  intro p hp m s
  have hexec : exec (p.1 m) s = .next (store16 p.2 m s) := by
    simp only [List.mem_cons, List.not_mem_nil, or_false] at hp
    obtain rfl | rfl | rfl | rfl | rfl := hp <;> rfl
  rw [store16_eq] at hexec
  obtain ⟨hsz, hv, hc, hh, hmasks⟩ := move16_flags ((ea m s).2.wide p.2) s.cpu.cc
  have hown : (memWrite16 (ea m s).1 ((ea m s).2.wide p.2) (ea m s).2).setCC s.cpu.cc =
      memWrite16 (ea m s).1 ((ea m s).2.wide p.2) (ea m s).2 :=
    State.setCC_own (by rw [memWrite16_cpu, ea_cc])
  refine ⟨_, hexec, hown, hsz, hv, hc, hh, hmasks, (congrArg State.cpu hown).trans (memWrite16_cpu ..),
    fun hw => ?_, fun a ha hout => ?_⟩
  · exact memWrite16_ramHolds (ea_wf hw m) _ _
  · have h0 : a ≠ (ea m s).1 := fun h => hout ⟨0, by decide, by rw [h]; exact (BitVec.add_zero _).symm⟩
    have h1 : a ≠ (ea m s).1 + 1 := fun h => hout ⟨1, by decide, h⟩
    exact (memWrite16_cell ha h0 h1 _ _).trans (ea_cell ha m s)

/-! ## Transfers and exchanges -/

/-- An exchange in a register file where a write is read back, leaves the other registers and is overwritten by the
next write of its register: the two values change places, and writing the old ones back leaves no trace of it. -/
theorem exchange_laws {V : Type} {read : State → Reg → V} {write : Reg → V → State → State} {P : Reg → Prop}
    (hsame : ∀ r v s, P r → read (write r v s) r = v) (hother : ∀ q r v s, q ≠ r → read (write r v s) q = read s q)
    (hover : ∀ r v w s, write r w (write r v s) = write r w s)
    (hcomm : ∀ q r v w s, q ≠ r → write q v (write r w s) = write r w (write q v s))
    {r1 r2 : Reg} (h1 : P r1) (h2 : P r2) (s : State) :
    read (write r2 (read s r1) (write r1 (read s r2) s)) r2 = read s r1 ∧
    read (write r2 (read s r1) (write r1 (read s r2) s)) r1 = read s r2 ∧
    write r1 (read s r1) (write r2 (read s r2) (write r2 (read s r1) (write r1 (read s r2) s))) =
      write r1 (read s r1) (write r2 (read s r2) s) := by
  refine ⟨hsame _ _ _ h2, ?_, ?_⟩
  · by_cases hr : r1 = r2
    · subst hr
      exact hsame _ _ _ h1
    · rw [hother _ _ _ _ hr, hsame _ _ _ h1]
  · rw [hover]
    by_cases hr : r1 = r2
    · subst hr
      rw [hover]
    · rw [hcomm r2 r1 _ _ _ (Ne.symm hr), hover]

theorem regRead16_regWrite16 (r : Reg) (w : Word) (s : State) (h : isWideReg r = true) :
    regRead16 (regWrite16 r w s) r = w := by
  cases r
  case d => exact join_hi_lo w
  case a | b | cc | dp => cases h
  all_goals rfl

theorem regRead16_regWrite16_other (q r : Reg) (w : Word) (s : State) (h : q ≠ r) :
    regRead16 (regWrite16 r w s) q = regRead16 s q := by
  cases r <;> cases q <;> simp only [ne_eq, reduceCtorEq, not_true_eq_false] at h <;> rfl

theorem regWrite16_regWrite16 (r : Reg) (v w : Word) (s : State) :
    regWrite16 r w (regWrite16 r v s) = regWrite16 r w s := by
  cases r <;> rfl

theorem regWrite16_comm (q r : Reg) (v w : Word) (s : State) (h : q ≠ r) :
    regWrite16 q v (regWrite16 r w s) = regWrite16 r w (regWrite16 q v s) := by
  cases r <;> cases q <;> simp only [ne_eq, reduceCtorEq, not_true_eq_false] at h <;> rfl

/-- Writing a register's own value back arms the NMI for S and does nothing else. -/
theorem regWrite16_own (r : Reg) (s : State) : regWrite16 r (regRead16 s r) s = if r = .s then s.armNmi else s := by
  cases r
  case d => simp [regWrite16, regRead16, State.setD, State.setA, State.setB, State.d, hi_join, lo_join]
  all_goals rfl

theorem regWrite16_own_two (r1 r2 : Reg) (s : State) :
    regWrite16 r1 (regRead16 s r1) (regWrite16 r2 (regRead16 s r2) s) =
      if r1 = .s ∨ r2 = .s then s.armNmi else s := by
  have harmed : regRead16 s.armNmi r1 = regRead16 s r1 := by cases r1 <;> rfl
  rw [regWrite16_own r2]
  by_cases h2 : r2 = .s
  · rw [if_pos h2, if_pos (.inr h2), ← harmed, regWrite16_own]
    split <;> rfl
  · rw [if_neg h2, regWrite16_own]
    simp only [h2, or_false]

theorem regRead8_regWrite8 (r : Reg) (v : Byte) (s : State) (h : isWideReg r = false) :
    regRead8 (regWrite8 r v s) r = v := by
  cases r
  case cc => exact pack_unpackCC v
  case a | b | dp => rfl
  all_goals cases h

theorem regRead8_regWrite8_other (q r : Reg) (v : Byte) (s : State) (h : q ≠ r) :
    regRead8 (regWrite8 r v s) q = regRead8 s q := by
  cases r <;> cases q <;> simp only [ne_eq, reduceCtorEq, not_true_eq_false] at h <;> rfl

theorem regWrite8_regWrite8 (r : Reg) (v w : Byte) (s : State) :
    regWrite8 r w (regWrite8 r v s) = regWrite8 r w s := by
  cases r <;> rfl

theorem regWrite8_comm (q r : Reg) (v w : Byte) (s : State) (h : q ≠ r) :
    regWrite8 q v (regWrite8 r w s) = regWrite8 r w (regWrite8 q v s) := by
  cases r <;> cases q <;> simp only [ne_eq, reduceCtorEq, not_true_eq_false] at h <;> rfl

theorem regWrite8_own (r : Reg) (s : State) : regWrite8 r (regRead8 s r) s = s := by
  cases r
  case cc => simp only [regWrite8, regRead8, unpack_packCC, State.setCC]
  all_goals rfl

/-- Settles O40: the laws of the register file, for words and for bytes. -/
theorem transferAndExchangeResult : Obligations.TransferAndExchangeResult := by
  intro r1 r2 s
  refine ⟨fun h1 h2 => ⟨⟨_, rfl, ?_⟩, ⟨_, rfl, ?_⟩⟩, fun h1 h2 => ⟨⟨_, rfl, ?_⟩, ⟨_, rfl, ?_⟩⟩⟩
  · rw [transfer, h1, h2]
    exact ⟨regRead16_regWrite16 _ _ _ h2, by rw [regWrite16_regWrite16, regWrite16_own]⟩
  · rw [exchange, h1, h2, ← regWrite16_own_two]
    exact exchange_laws (read := regRead16) (write := regWrite16) regRead16_regWrite16 regRead16_regWrite16_other
      regWrite16_regWrite16 regWrite16_comm h1 h2 s
  · rw [transfer, h1, h2]
    exact ⟨regRead8_regWrite8 _ _ _ h2, by rw [regWrite8_regWrite8, regWrite8_own]⟩
  · rw [exchange, h1, h2]
    have hlaws := exchange_laws (read := regRead8) (write := regWrite8) regRead8_regWrite8 regRead8_regWrite8_other
      regWrite8_regWrite8 regWrite8_comm h1 h2 s
    rwa [regWrite8_own r2 s, regWrite8_own] at hlaws

/-- A free write is a write of what the draw answers. -/
theorem regWriteFree_eq (r : Reg) (s : State) : regWriteFree r s =
    (if isWideReg r then regWrite16 r (Config.freeWord s.draws) else regWrite8 r (lo (Config.freeWord s.draws)))
      s.drawn := by
  rw [regWriteFree]
  dsimp only [State.drawWord]
  split <;> rfl

/-- Drawing and writing a register do not depend on each other. -/
theorem regWrite_drawn (r : Reg) (w : Word) (s : State) :
    ((if isWideReg r then regWrite16 r w else regWrite8 r (lo w)) s).drawn =
      (if isWideReg r then regWrite16 r w else regWrite8 r (lo w)) s.drawn := by
  cases r <;> rfl

/-- Settles O41: registers of two sizes are written freely. -/
theorem mixedSizeTransfersAreFree : Obligations.MixedSizeTransfersAreFree := by
  intro r1 r2 s h
  have htfr : exec (.tfr r1 r2) s = .next (regWriteFree r2 s) := by
    rw [exec, execTfr, transfer]
    cases h1 : isWideReg r1 <;> cases h2 : isWideReg r2 <;> simp_all
  have hexg : exec (.exg r1 r2) s = .next (regWriteFree r2 (regWriteFree r1 s)) := by
    rw [exec, execExg, exchange]
    cases h1 : isWideReg r1 <;> cases h2 : isWideReg r2 <;> simp_all
  rw [htfr, hexg, regWriteFree_eq, regWriteFree_eq r1, regWriteFree_eq r2, regWrite_drawn]
  exact ⟨⟨_, rfl⟩, _, _, rfl⟩

end Sys2Proof.Machine
end

section
/-! SUPPORT. Sums and differences as numbers (42_arithmetic.md R190, R191), and the instructions made of them. -/

namespace Sys2Proof.Machine

-- Proofs are checked one after the other: those that wait for an earlier one would each hold a thread.
set_option Elab.async false

/-! ## Signs as numbers -/

theorem bit7 (v : Byte) : v.getLsbD 7 = decide (128 ≤ v.toNat) := BitVec.msb_eq_decide v

theorem bit15 (w : Word) : w.getLsbD 15 = decide (32768 ≤ w.toNat) := BitVec.msb_eq_decide w

theorem byte_toInt (v : Byte) :
    v.toNat < 128 ∧ v.toInt = v.toNat ∨ 128 ≤ v.toNat ∧ v.toInt = (v.toNat : Int) - 256 := by
  rw [BitVec.toInt_eq_toNat_cond]
  split <;> omega

theorem word_toInt (w : Word) :
    w.toNat < 32768 ∧ w.toInt = w.toNat ∨ 32768 ≤ w.toNat ∧ w.toInt = (w.toNat : Int) - 65536 := by
  rw [BitVec.toInt_eq_toNat_cond]
  split <;> omega

/-! ## Byte sums and differences -/

/-- The 9-bit sum of R190 does not overflow. -/
theorem sum9_toNat (a m : Byte) (cin : Bool) :
    (a.setWidth 9 + m.setWidth 9 + (BitVec.ofBool cin).setWidth 9 : BitVec 9).toNat =
      a.toNat + m.toNat + cin.toNat := by
  have hcin := Bool.toNat_le cin
  simp only [BitVec.toNat_add, BitVec.toNat_setWidth, BitVec.toNat_ofBool]
  omega

theorem add8_toNat (a m : Byte) (cin : Bool) (cc : CC) :
    (add8 a m cin cc).1.toNat = (a.toNat + m.toNat + cin.toNat) % 256 := by
  simp only [add8, BitVec.toNat_setWidth, sum9_toNat]

/-- The difference of two bits, as a proposition. -/
theorem xor_decide (p q : Prop) [Decidable p] [Decidable q] : (decide p ^^ decide q) = decide (¬ (p ↔ q)) := by
  by_cases hp : p <;> by_cases hq : q <;> simp [hp, hq]

theorem and_decide (p q : Prop) [Decidable p] [Decidable q] : (decide p && decide q) = decide (p ∧ q) :=
  (Bool.decide_and p q).symm

theorem bit4 (v : Byte) : v.getLsbD 4 = decide (v.toNat / 16 % 2 = 1) := Nat.testBit_eq_decide_div_mod_eq

/-- The five flags of a sum: H and V from the bits that the result's bit differs from, C the ninth bit. -/
theorem add8_sum (a m : Byte) (cin : Bool) (cc : CC) :
    SumSpec cin.toNat a m (add8 a m cin cc).1 cc (add8 a m cin cc).2 := by
  have hr := add8_toNat a m cin cc
  have hcin := Bool.toNat_le cin
  have hh : (add8 a m cin cc).2.h = (a ^^^ m ^^^ (add8 a m cin cc).1).getLsbD 4 := rfl
  have hv : (add8 a m cin cc).2.v =
      ((a ^^^ (add8 a m cin cc).1) &&& (m ^^^ (add8 a m cin cc).1)).getLsbD 7 := rfl
  have hc : (add8 a m cin cc).2.c =
      (a.setWidth 9 + m.setWidth 9 + (BitVec.ofBool cin).setWidth 9 : BitVec 9).getLsbD 8 := rfl
  refine ⟨hr, signZero8 _, ?_, ?_, ?_, rfl, rfl, rfl⟩
  · rw [hh, BitVec.getLsbD_xor, BitVec.getLsbD_xor]
    simp only [bit4, xor_decide, hr]
    exact decide_eq_decide.mpr (by omega)
  · rw [hv, BitVec.getLsbD_and, BitVec.getLsbD_xor, BitVec.getLsbD_xor]
    simp only [bit7, xor_decide, and_decide, hr]
    have ha := byte_toInt a
    have hm := byte_toInt m
    exact decide_eq_decide.mpr (by omega)
  · rw [hc, BitVec.getLsbD, sum9_toNat, Nat.testBit_eq_decide_div_mod_eq]
    exact decide_eq_decide.mpr (by omega)

/-- A difference is the sum with the complement, its carry inverted (42_arithmetic.md R191). -/
theorem sub8_eq (h : Bool) (a m : Byte) (bin : Bool) (cc : CC) :
    sub8 h a m bin cc =
      ((add8 a (~~~m) (!bin) cc).1,
        { (add8 a (~~~m) (!bin) cc).2 with h := h, c := !(add8 a (~~~m) (!bin) cc).2.c }) := rfl

theorem sub8_difference (h : Bool) (a m : Byte) (bin : Bool) (cc : CC) :
    DifferenceSpec bin.toNat a m (sub8 h a m bin cc).1 cc (sub8 h a m bin cc).2 := by
  obtain ⟨hr, hsz, -, hv, hc, hmasks⟩ := add8_sum a (~~~m) (!bin) cc
  have hnot : (~~~m).toNat = 255 - m.toNat := by rw [BitVec.toNat_not]
  have hnotInt : (~~~m).toInt = -1 - m.toInt := by
    have hm := byte_toInt m
    have hm' := byte_toInt (~~~m)
    omega
  have hbin : (!bin).toNat = 1 - bin.toNat := by cases bin <;> rfl
  have hle := Bool.toNat_le bin
  rw [hnot, hbin] at hr hc
  rw [hnotInt, hbin] at hv
  rw [sub8_eq]
  refine ⟨by rw [hr]; omega, hsz, hv.trans (decide_eq_decide.mpr (by omega)), ?_, hmasks⟩
  rw [hc, ← decide_not]
  exact decide_eq_decide.mpr (by omega)

/-! ## Word sums and differences -/

/-- The sum of R190 in 16 bits; H and the masks are kept. -/
theorem add16_sum (a m : Word) (cc : CC) :
    (add16 a m cc).1.toNat = (a.toNat + m.toNat) % 65536 ∧ SignZero16 (add16 a m cc).1 (add16 a m cc).2 ∧
    (add16 a m cc).2.v = decide (a.toInt + m.toInt < -32768 ∨ 32767 < a.toInt + m.toInt) ∧
    (add16 a m cc).2.c = decide (65536 ≤ a.toNat + m.toNat) ∧ (add16 a m cc).2.h = cc.h ∧
    SameMasks cc (add16 a m cc).2 := by
  have hsum : (a.setWidth 17 + m.setWidth 17 : BitVec 17).toNat = a.toNat + m.toNat := by
    simp only [BitVec.toNat_add, BitVec.toNat_setWidth]
    omega
  have hr : (add16 a m cc).1.toNat = (a.toNat + m.toNat) % 65536 := by
    simp only [add16, BitVec.toNat_setWidth, hsum]
  have hv : (add16 a m cc).2.v =
      ((a ^^^ (add16 a m cc).1) &&& (m ^^^ (add16 a m cc).1)).getLsbD 15 := rfl
  have hc : (add16 a m cc).2.c = (a.setWidth 17 + m.setWidth 17 : BitVec 17).getLsbD 16 := rfl
  refine ⟨hr, ⟨sign16 _, zero16 _⟩, ?_, ?_, rfl, rfl, rfl, rfl⟩
  · rw [hv, BitVec.getLsbD_and, BitVec.getLsbD_xor, BitVec.getLsbD_xor]
    simp only [bit15, xor_decide, and_decide, hr]
    have ha := word_toInt a
    have hm := word_toInt m
    exact decide_eq_decide.mpr (by omega)
  · rw [hc, BitVec.getLsbD, hsum, Nat.testBit_eq_decide_div_mod_eq]
    exact decide_eq_decide.mpr (by omega)

/-- The difference of R191 in 16 bits; H and the masks are kept. -/
theorem sub16_difference (a m : Word) (cc : CC) :
    (sub16 a m cc).1 = a - m ∧ SignZero16 (a - m) (sub16 a m cc).2 ∧
    (sub16 a m cc).2.v = decide (a.toInt - m.toInt < -32768 ∨ 32767 < a.toInt - m.toInt) ∧
    (sub16 a m cc).2.c = decide (a.toNat < m.toNat) ∧ (sub16 a m cc).2.h = cc.h ∧
    SameMasks cc (sub16 a m cc).2 := by
  have hv : (sub16 a m cc).2.v = ((a ^^^ m) &&& (a ^^^ (a - m))).getLsbD 15 := rfl
  refine ⟨rfl, ⟨sign16 _, zero16 _⟩, ?_, rfl, rfl, rfl, rfl, rfl⟩
  rw [hv, BitVec.getLsbD_and, BitVec.getLsbD_xor, BitVec.getLsbD_xor]
  simp only [bit15, xor_decide, and_decide, BitVec.toNat_sub]
  have ha := word_toInt a
  have hm := word_toInt m
  exact decide_eq_decide.mpr (by omega)

/-! ## The shapes of tests and of operations with a free half carry -/

theorem accTest_cc (f : Byte → Byte → CC → Byte × CC) (r : Acc) (o : Src8) (s : State) :
    (accTest f r o s).cpu.cc = (f (s.acc r) (operand8 o s).1 s.cpu.cc).2 := by
  rw [accTest, State.setCC_cpu, operand8_acc, operand8_cc]

theorem accTest_restored (f : Byte → Byte → CC → Byte × CC) (r : Acc) (o : Src8) (s : State) :
    (accTest f r o s).setCC s.cpu.cc = (operand8 o s).2 :=
  State.setCC_own (operand8_cc o s)

theorem wideTest_cc (f : Word → Word → CC → Word × CC) (r : Wide) (o : Src16) (s : State) :
    (wideTest f r o s).cpu.cc = (f ((operand16 o s).2.wide r) (operand16 o s).1 s.cpu.cc).2 := by
  rw [wideTest, State.setCC_cpu, operand16_cc]

theorem wideTest_restored (f : Word → Word → CC → Word × CC) (r : Wide) (o : Src16) (s : State) :
    (wideTest f r o s).setCC s.cpu.cc = (operand16 o s).2 :=
  State.setCC_own (operand16_cc o s)

@[simp] theorem State.acc_drawn (s : State) (r : Acc) : s.drawn.acc r = s.acc r := by cases r <;> rfl

/-- What an operation with a free half carry does, for the half carry it draws. -/
theorem accOpFree_result (f : Bool → Byte → Byte → CC → Byte × CC) (r : Acc) (o : Src8) (s : State) :
    ∃ h, (accOpFree f r o s).acc r = (f h (s.acc r) (operand8 o s).1 s.cpu.cc).1 ∧
      (accOpFree f r o s).cpu.cc = (f h (s.acc r) (operand8 o s).1 s.cpu.cc).2 ∧
      ((accOpFree f r o s).setAcc r (s.acc r)).setCC s.cpu.cc = (operand8 o s).2.drawn := by
  have hcc : (operand8 o s).2.drawn.cpu.cc = s.cpu.cc := operand8_cc o s
  have hacc : (operand8 o s).2.drawn.acc r = s.acc r := (State.acc_drawn _ r).trans (operand8_acc o s r)
  refine ⟨Config.freeBit (operand8 o s).2.draws, ?_, ?_, ?_⟩
  · simp only [accOpFree, State.drawBit, State.acc_setCC, State.acc_setAcc, hacc, hcc]
  · simp only [accOpFree, State.drawBit, State.setCC_cpu, hacc, hcc]
  · rw [← hacc]
    exact State.acc_restored hcc r _ _

theorem accTestFree_result (f : Bool → Byte → Byte → CC → Byte × CC) (r : Acc) (o : Src8) (s : State) :
    ∃ h, (accTestFree f r o s).cpu.cc = (f h (s.acc r) (operand8 o s).1 s.cpu.cc).2 ∧
      (accTestFree f r o s).setCC s.cpu.cc = (operand8 o s).2.drawn := by
  have hcc : (operand8 o s).2.drawn.cpu.cc = s.cpu.cc := operand8_cc o s
  have hacc : (operand8 o s).2.drawn.acc r = s.acc r := (State.acc_drawn _ r).trans (operand8_acc o s r)
  refine ⟨Config.freeBit (operand8 o s).2.draws, ?_, State.setCC_own hcc⟩
  simp only [accTestFree, State.drawBit, State.setCC_cpu, hacc, hcc]

/-! ## The instructions -/

/-- Settles O44: an addition with the carry in that the instruction takes. -/
theorem byteAdditionResult : Obligations.ByteAdditionResult := by
  intro p hp o s
  have hexec : exec (p.1 o) s = .next (accOp (fun a m cc => add8 a m (p.2.2 && cc.c) cc) p.2.1 o s) := by
    simp only [List.mem_cons, List.not_mem_nil, or_false] at hp
    obtain rfl | rfl | rfl | rfl := hp <;> rfl
  have hcin : (if p.2.2 then s.cpu.cc.c.toNat else 0) = (p.2.2 && s.cpu.cc.c).toNat := by cases p.2.2 <;> rfl
  refine ⟨_, hexec, ?_, accOp_restored _ _ o s, fun a ha => accOp_cell ha _ _ o s⟩
  rw [hcin, accOp_acc, accOp_cc]
  exact add8_sum ..

/-- Settles O45: a difference with the borrow in that the instruction takes, kept or only tested. -/
theorem byteSubtractionAndCompare : Obligations.ByteSubtractionAndCompare := by
  refine ⟨fun p hp o s => ?_, fun p hp o s => ?_⟩
  · have hexec : exec (p.1 o) s = .next (accOpFree (fun h a m cc => sub8 h a m (p.2.2 && cc.c) cc) p.2.1 o s) := by
      simp only [List.mem_cons, List.not_mem_nil, or_false] at hp
      obtain rfl | rfl | rfl | rfl := hp <;> rfl
    have hbin : (if p.2.2 then s.cpu.cc.c.toNat else 0) = (p.2.2 && s.cpu.cc.c).toNat := by cases p.2.2 <;> rfl
    obtain ⟨h, hacc, hcc, hrestored⟩ := accOpFree_result (fun h a m cc => sub8 h a m (p.2.2 && cc.c) cc) p.2.1 o s
    refine ⟨_, hexec, ?_, hrestored, fun a ha => accOpFree_cell ha _ _ o s⟩
    rw [hbin, hacc, hcc]
    exact sub8_difference ..
  · have hexec : exec (p.1 o) s = .next (accTestFree (fun h a m cc => sub8 h a m false cc) p.2 o s) := by
      simp only [List.mem_cons, List.not_mem_nil, or_false] at hp
      obtain rfl | rfl := hp <;> rfl
    obtain ⟨h, hcc, hrestored⟩ := accTestFree_result (fun h a m cc => sub8 h a m false cc) p.2 o s
    have hdiff := sub8_difference h (s.acc p.2) (operand8 o s).1 false s.cpu.cc
    refine ⟨_, _, hexec, hcc ▸ hdiff, ?_, hrestored, fun a ha => accTestFree_cell ha _ _ o s⟩
    obtain ⟨hr, ⟨-, hz⟩, -⟩ := hdiff
    rw [hcc, hz, hr]
    exact decide_eq_decide.mpr (by rw [← BitVec.toNat_inj, Bool.toNat_false]; omega)

/-- Settles O46: word sums and differences in D. -/
theorem wordAdditionAndSubtraction : Obligations.WordAdditionAndSubtraction := by
  intro o s
  have hd : (operand16 o s).2.wide .d = s.d := operand16_d o s
  refine ⟨⟨_, rfl, ?_⟩, ⟨_, rfl, ?_⟩⟩
  · have hwide := wideOp_wide add16 .d o s
    have hcc := wideOp_cc add16 .d o s
    have hrestored := wideOp_restored add16 .d o s
    rw [hd] at hwide hcc hrestored
    obtain ⟨hr, hsz, hv, hc, hh, hmasks⟩ := add16_sum s.d (operand16 o s).1 s.cpu.cc
    rw [← hwide, ← hcc] at hsz
    rw [← hwide] at hr
    rw [← hcc] at hv hc hh hmasks
    exact ⟨hr, hsz, hv, hc, hh, hmasks, hrestored, fun a ha => wideOp_cell ha _ _ o s⟩
  · have hwide := wideOp_wide sub16 .d o s
    have hcc := wideOp_cc sub16 .d o s
    have hrestored := wideOp_restored sub16 .d o s
    rw [hd] at hwide hcc hrestored
    obtain ⟨hr, hsz, hv, hc, hh, hmasks⟩ := sub16_difference s.d (operand16 o s).1 s.cpu.cc
    have hnat : (s.d - (operand16 o s).1).toNat = (s.d.toNat + 65536 - (operand16 o s).1.toNat) % 65536 := by
      rw [BitVec.toNat_sub]
      omega
    rw [← hr, ← hwide, ← hcc] at hsz
    rw [← hr, ← hwide] at hnat
    rw [← hcc] at hv hc hh hmasks
    exact ⟨hnat, hsz, hv, hc, hh, hmasks, hrestored, fun a ha => wideOp_cell ha _ _ o s⟩

/-- Settles O47: the flags of the word difference. -/
theorem wordCompareResult : Obligations.WordCompareResult := by
  intro p hp o s
  have hexec : exec (p.1 o) s = .next (wideTest sub16 p.2 o s) := by
    simp only [List.mem_cons, List.not_mem_nil, or_false] at hp
    obtain rfl | rfl | rfl | rfl | rfl := hp <;> rfl
  obtain ⟨-, ⟨hn, hz⟩, hv, hc, hh, hmasks⟩ :=
    sub16_difference ((operand16 o s).2.wide p.2) (operand16 o s).1 s.cpu.cc
  rw [← wideTest_cc] at hn hz hv hc hh hmasks
  refine ⟨_, hexec, wideTest_restored _ _ o s, hz.trans ?_, hc, hn, hv, hh, hmasks,
    fun a ha => wideTest_cell ha _ _ o s⟩
  exact decide_eq_decide.mpr (by rw [← BitVec.toNat_inj, BitVec.toNat_sub]; omega)

end Sys2Proof.Machine
end

section
/-! SUPPORT. Single-operand instructions, on accumulators and on memory (42_arithmetic.md R209..R224,
43_logic_shift.md R248..R267): the value and flags of each operation, then the two shapes that use them. -/

namespace Sys2Proof.Machine

-- Proofs are checked one after the other: those that wait for an earlier one would each hold a thread.
set_option Elab.async false

/-! ## The operations -/

theorem neg8_spec (h : Bool) (v : Byte) (cc : CC) : NegSpec v (neg8 h v cc).1 cc (neg8 h v cc).2 := by
  obtain ⟨hr, hsz, hv, hc, hmasks⟩ := sub8_difference h 0 v false cc
  have hlt := v.isLt
  have hint := byte_toInt v
  have hzero : (0 : Byte).toNat = 0 ∧ (0 : Byte).toInt = 0 := by decide
  rw [hzero.1, Bool.toNat_false] at hr hc
  rw [hzero.2, Bool.toNat_false] at hv
  exact ⟨hr.trans (by omega), hsz, hv.trans (decide_eq_decide.mpr (by omega)),
    hc.trans (decide_eq_decide.mpr (by omega)), hmasks⟩

theorem inc8_spec (v : Byte) (cc : CC) : IncSpec v (inc8 v cc).1 cc (inc8 v cc).2 := by
  have hv : (v == 0x7F) = decide (v.toNat = 127) := by
    revert v
    decide
  exact ⟨BitVec.toNat_add v 1, signZero8 _, hv, rfl, rfl, rfl, rfl, rfl⟩

theorem dec8_spec (v : Byte) (cc : CC) : DecSpec v (dec8 v cc).1 cc (dec8 v cc).2 := by
  have hr : (v - 1).toNat = (v.toNat + 255) % 256 := by bv_omega
  have hv : (v == 0x80) = decide (v.toNat = 128) := by
    revert v
    decide
  exact ⟨hr, signZero8 _, hv, rfl, rfl, rfl, rfl, rfl⟩

theorem clr8_spec (v : Byte) (cc : CC) : ClrSpec v (clr8 cc).1 cc (clr8 cc).2 :=
  ⟨rfl, rfl, rfl, rfl, rfl, rfl, rfl, rfl, rfl⟩

theorem com8_spec (v : Byte) (cc : CC) : ComSpec v (com8 v cc).1 cc (com8 v cc).2 :=
  ⟨BitVec.toNat_not, signZero8 _, rfl, rfl, rfl, rfl, rfl, rfl⟩

theorem asl8_spec (h : Bool) (v : Byte) (cc : CC) : AslSpec v (asl8 h v cc).1 cc (asl8 h v cc).2 := by
  have hr : (v <<< 1).toNat = 2 * v.toNat % 256 := by
    revert v
    decide
  have hv : (v.getLsbD 7 ^^ v.getLsbD 6) = decide (2 * v.toInt < -128 ∨ 127 < 2 * v.toInt) := by
    revert v
    decide
  exact ⟨hr, signZero8 _, bit7 v, hv, rfl, rfl, rfl⟩

/-- The bit a right shift drops. -/
theorem bit0 (v : Byte) : v.getLsbD 0 = decide (v.toNat % 2 = 1) := Nat.testBit_zero _

theorem asr8_spec (h : Bool) (v : Byte) (cc : CC) : AsrSpec v (asr8 h v cc).1 cc (asr8 h v cc).2 := by
  have hr : (v >>> 1 ||| (v &&& 0x80)).toInt = v.toInt / 2 := by
    revert v
    decide
  exact ⟨hr, signZero8 _, bit0 v, rfl, rfl, rfl, rfl⟩

theorem lsr8_spec (v : Byte) (cc : CC) : LsrSpec v (lsr8 v cc).1 cc (lsr8 v cc).2 := by
  have hr : (v >>> 1).toNat = v.toNat / 2 ∧ false = decide ((v >>> 1).toInt < 0) := by
    revert v
    decide
  exact ⟨hr.1, ⟨hr.2, (signZero8 _).2⟩, rfl, bit0 v, rfl, rfl, rfl, rfl, rfl⟩

theorem rol8_spec (v : Byte) (cc : CC) : RolSpec v (rol8 v cc).1 cc (rol8 v cc).2 := by
  have hr (c : Bool) : (v <<< 1 ||| (if c then 1 else 0)).toNat = (2 * v.toNat + c.toNat) % 256 := by
    revert v c
    decide
  have hv : (v.getLsbD 7 ^^ v.getLsbD 6) = decide (¬ (128 ≤ v.toNat ↔ 64 ≤ v.toNat % 128)) := by
    revert v
    decide
  exact ⟨hr cc.c, signZero8 _, bit7 v, hv, rfl, rfl, rfl, rfl⟩

theorem ror8_spec (v : Byte) (cc : CC) : RorSpec v (ror8 v cc).1 cc (ror8 v cc).2 := by
  have hr (c : Bool) : (v >>> 1 ||| (if c then 0x80 else 0)).toNat = v.toNat / 2 + 128 * c.toNat := by
    revert v c
    decide
  exact ⟨hr cc.c, signZero8 _, bit0 v, rfl, rfl, rfl, rfl, rfl⟩

/-! ## On an accumulator -/

/-- What a single-operand instruction on an accumulator is to do. -/
def UnaryResult (i : Instr) (r : Acc) (spec : UnarySpec) : Prop :=
  ∀ s : State, ∃ t, exec i s = .next t ∧ spec (s.acc r) (t.acc r) s.cpu.cc t.cpu.cc ∧
    { (t.setAcc r (s.acc r)).setCC s.cpu.cc with draws := s.draws } = s

theorem unaryAcc_result {i : Instr} {f : Byte → CC → Byte × CC} {r : Acc} {spec : UnarySpec}
    (hexec : ∀ s, exec i s = .next (unaryAcc f r s)) (hf : ∀ v c, spec v (f v c).1 c (f v c).2) :
    UnaryResult i r spec := by
  intro s
  refine ⟨_, hexec s, ?_, congrArg (fun t : State => { t with draws := s.draws }) (State.acc_restored rfl r _ _)⟩
  rw [unaryAcc, State.acc_setCC, State.acc_setAcc]
  exact hf _ _

theorem unaryAccFree_result {i : Instr} {f : Bool → Byte → CC → Byte × CC} {r : Acc} {spec : UnarySpec}
    (hexec : ∀ s, exec i s = .next (unaryAccFree f r s)) (hf : ∀ h v c, spec v (f h v c).1 c (f h v c).2) :
    UnaryResult i r spec := by
  intro s
  have hrestored : ((unaryAccFree f r s).setAcc r (s.drawn.acc r)).setCC s.cpu.cc = s.drawn :=
    State.acc_restored rfl r _ _
  rw [State.acc_drawn] at hrestored
  refine ⟨_, hexec s, ?_, congrArg (fun t : State => { t with draws := s.draws }) hrestored⟩
  rw [unaryAccFree, unaryAcc, State.acc_setCC, State.acc_setAcc]
  simp only [State.drawBit, State.acc_drawn]
  exact hf _ _ _

theorem tstAcc_result {i : Instr} {r : Acc} (hexec : ∀ s, exec i s = .next (s.setCC (move8 (s.acc r) s.cpu.cc))) :
    UnaryResult i r TstSpec := by
  refine fun s => ⟨_, hexec s, ?_, ?_⟩
  · rw [State.acc_setCC]
    exact ⟨rfl, move8_flags _ _⟩
  · rw [State.setAcc_setCC, State.setAcc_acc, State.setCC_setCC]
    rfl

/-- Settles O48: each row is a shape and an operation. -/
theorem unaryOnAccumulators : Obligations.UnaryOnAccumulators := by
  change ∀ p : Instr × Acc × UnarySpec, p ∈ _ → UnaryResult p.1 p.2.1 p.2.2
  simp only [List.forall_mem_cons, List.not_mem_nil, false_imp_iff, implies_true, and_true]
  exact ⟨unaryAccFree_result (fun _ => rfl) neg8_spec, unaryAccFree_result (fun _ => rfl) neg8_spec,
    unaryAcc_result (fun _ => rfl) inc8_spec, unaryAcc_result (fun _ => rfl) inc8_spec,
    unaryAcc_result (fun _ => rfl) dec8_spec, unaryAcc_result (fun _ => rfl) dec8_spec,
    tstAcc_result fun _ => rfl, tstAcc_result fun _ => rfl,
    unaryAcc_result (fun _ => rfl) clr8_spec, unaryAcc_result (fun _ => rfl) clr8_spec,
    unaryAcc_result (fun _ => rfl) com8_spec, unaryAcc_result (fun _ => rfl) com8_spec,
    unaryAccFree_result (fun _ => rfl) asl8_spec, unaryAccFree_result (fun _ => rfl) asl8_spec,
    unaryAccFree_result (fun _ => rfl) asr8_spec, unaryAccFree_result (fun _ => rfl) asr8_spec,
    unaryAcc_result (fun _ => rfl) lsr8_spec, unaryAcc_result (fun _ => rfl) lsr8_spec,
    unaryAcc_result (fun _ => rfl) rol8_spec, unaryAcc_result (fun _ => rfl) rol8_spec,
    unaryAcc_result (fun _ => rfl) ror8_spec, unaryAcc_result (fun _ => rfl) ror8_spec⟩

/-! ## On memory -/

/-- What a single-operand instruction on memory is to do: one read, one write of the same address. -/
def MemoryResult (i : Mem → Instr) (spec : UnarySpec) : Prop :=
  ∀ (m : Mem) (s : State),
    let a := (ea m s).1
    let v := (read8 a (ea m s).2).1
    let q := (read8 a (ea m s).2).2
    ∃ t r d, exec (i m) s = .next t ∧ spec v r s.cpu.cc t.cpu.cc ∧
      t.setCC s.cpu.cc = write8 a r { q with draws := d } ∧ (t.setCC s.cpu.cc).cpu = (ea m s).2.cpu ∧
      (s.mem.wf = true → cellKind a = .ram → v = (ea m s).2.cell a ∧ t.cell a = r) ∧
      PlainCellsSameBut (· = a) s t

theorem read8_ea_cc (m : Mem) (s : State) : (read8 (ea m s).1 (ea m s).2).2.cpu.cc = s.cpu.cc := by
  rw [read8_cpu, ea_cc]

/-- One read, one write of the same address, and the flags: whatever byte and flags are written. -/
theorem memoryResult_of {i : Mem → Instr} {spec : UnarySpec}
    (h : ∀ m s, ∃ r c d,
      exec (i m) s = .next ((write8 (ea m s).1 r { (read8 (ea m s).1 (ea m s).2).2 with draws := d }).setCC c) ∧
      spec (read8 (ea m s).1 (ea m s).2).1 r s.cpu.cc c) : MemoryResult i spec := by
  intro m s
  obtain ⟨r, c, d, hexec, hspec⟩ := h m s
  have hown : (write8 (ea m s).1 r { (read8 (ea m s).1 (ea m s).2).2 with draws := d }).setCC s.cpu.cc =
      write8 (ea m s).1 r { (read8 (ea m s).1 (ea m s).2).2 with draws := d } :=
    State.setCC_own (by rw [write8_cpu]; exact read8_ea_cc m s)
  refine ⟨_, r, d, hexec, hspec, hown, ?_, fun hw hram => ⟨?_, ?_⟩, fun a ha hne => ?_⟩
  · rw [State.setCC_setCC, hown, write8_cpu]
    exact read8_cpu _ _
  · rw [read8_plain (isIo_ram hram)]
  · exact write8_cell_same (by exact read8_wf (ea_wf hw m) _) hram r
  · rw [State.cell_setCC, write8_cell ha hne]
    exact (read8_cell ha _).trans (ea_cell ha m s)

theorem modify_result {i : Mem → Instr} {f : Byte → CC → Byte × CC} {spec : UnarySpec}
    (hexec : ∀ m s, exec (i m) s = .next (modify f m s)) (hf : ∀ v c, spec v (f v c).1 c (f v c).2) :
    MemoryResult i spec := by
  refine memoryResult_of fun m s => ⟨_, _, _, hexec m s, ?_⟩
  rw [read8_ea_cc]
  exact hf _ _

theorem modifyFree_result {i : Mem → Instr} {f : Bool → Byte → CC → Byte × CC} {spec : UnarySpec}
    (hexec : ∀ m s, exec (i m) s = .next (modifyFree f m s)) (hf : ∀ h v c, spec v (f h v c).1 c (f h v c).2) :
    MemoryResult i spec := by
  refine memoryResult_of fun m s => ⟨_, _, _, hexec m s, ?_⟩
  have hcc : (read8 (ea m s).1 (ea m s).2).2.drawn.cpu.cc = s.cpu.cc := read8_ea_cc m s
  simp only [State.drawBit, hcc]
  exact hf _ _ _

/-- Settles O49: each row is a shape and an operation; CLR reads too. -/
theorem unaryOnMemory : Obligations.UnaryOnMemory := by
  refine ⟨?_, fun m s => ⟨_, rfl, ?_, State.setCC_own (read8_ea_cc m s), fun a ha => testMem_cell ha m s⟩⟩
  · change ∀ p : (Mem → Instr) × UnarySpec, p ∈ _ → MemoryResult p.1 p.2
    simp only [List.forall_mem_cons, List.not_mem_nil, false_imp_iff, implies_true, and_true]
    exact ⟨modifyFree_result (fun _ _ => rfl) neg8_spec, modify_result (fun _ _ => rfl) inc8_spec,
      modify_result (fun _ _ => rfl) dec8_spec, modify_result (f := fun _ cc => clr8 cc) (fun _ _ => rfl) clr8_spec,
      modify_result (fun _ _ => rfl) com8_spec, modifyFree_result (fun _ _ => rfl) asl8_spec,
      modifyFree_result (fun _ _ => rfl) asr8_spec, modify_result (fun _ _ => rfl) lsr8_spec,
      modify_result (fun _ _ => rfl) rol8_spec, modify_result (fun _ _ => rfl) ror8_spec⟩
  · rw [testMem, State.setCC_cpu, read8_ea_cc]
    exact ⟨rfl, move8_flags _ _⟩

end Sys2Proof.Machine
end

section
/-! SUPPORT. The rest of the arithmetic and logic: MUL, SEX, ABX, DAA and decimal addition, the bitwise operations, the
masks of CC (42_arithmetic.md R225..R229, 43_logic_shift.md R240..R252). -/

namespace Sys2Proof.Machine

-- Proofs are checked one after the other: those that wait for an earlier one would each hold a thread.
set_option Elab.async false

/-! ## MUL, SEX, ABX -/

/-- The product of two bytes fits a word. -/
theorem mul8_toNat (a b : Byte) (cc : CC) : (mul8 a b cc).1.toNat = a.toNat * b.toNat := by
  have hle : a.toNat * b.toNat ≤ 255 * 255 := Nat.mul_le_mul (by omega) (by omega)
  simp only [mul8, zext8, BitVec.toNat_mul, BitVec.toNat_setWidth]
  rw [Nat.mod_eq_of_lt (by omega : a.toNat < 2 ^ 16), Nat.mod_eq_of_lt (by omega : b.toNat < 2 ^ 16),
    Nat.mod_eq_of_lt (by omega)]

/-- What D holds after a write of it, with flags. -/
theorem State.setD_setCC_d (s : State) (w : Word) (c : CC) : ((s.setD w).setCC c).d = w := join_hi_lo w

theorem lo_getLsbD_seven (w : Word) : (lo w).getLsbD 7 = w.getLsbD 7 := by
  rw [lo, BitVec.getLsbD_extractLsb']
  simp

/-- A byte sign-extended: its low byte is the byte, and it is zero with it. -/
theorem sext8_byte (v : Byte) : lo (sext8 v) = v ∧ (sext8 v == 0) = decide (v.toNat = 0) := by
  revert v
  decide

/-- Settles O50: the product, the extension, the unsigned sum. -/
theorem multiplyAndExtend : Obligations.MultiplyAndExtend := by
  intro s
  refine ⟨⟨_, rfl, ?_, ?_, ?_⟩, ⟨_, rfl, ?_, ?_, ?_, ?_⟩, ⟨_, rfl, ?_, rfl⟩⟩
  · rw [State.setD_setCC_d, mul8_toNat]
  · have hz : ((mul8 s.cpu.a s.cpu.b s.cpu.cc).1 == 0) = decide (s.cpu.a.toNat = 0 ∨ s.cpu.b.toNat = 0) := by
      rw [zero16, mul8_toNat]
      exact decide_eq_decide.mpr Nat.mul_eq_zero
    have hc : (mul8 s.cpu.a s.cpu.b s.cpu.cc).1.getLsbD 7 =
        decide (128 ≤ (lo (mul8 s.cpu.a s.cpu.b s.cpu.cc).1).toNat) := by
      rw [← bit7, lo_getLsbD_seven]
    exact congrArg₂ (fun z c => { s.cpu.cc with z := z, c := c }) hz hc
  · exact State.wide_restored rfl .d _ _
  · rw [State.setD_setCC_d]
    exact sext8_toInt s.cpu.b
  · exact (sext8_byte s.cpu.b).1
  · have hn : (sext8 s.cpu.b).getLsbD 15 = decide (s.cpu.b.toInt < 0) := by rw [sign16, sext8_toInt]
    exact congrArg₂ (fun n z => { s.cpu.cc with n := n, z := z }) hn (sext8_byte s.cpu.b).2
  · simp only [State.setD, State.setA, State.setB, State.setCC, sexWord, sext8_byte]
  · rw [State.setX_cpu, BitVec.toNat_add, zext8, BitVec.toNat_setWidth]
    omega

/-! ## Decimal adjustment -/

/-- The correction of R226 as a number. -/
theorem daaCorrection_toNat (a : Byte) (h c : Bool) : (daaCorrection a h c).toNat =
    (if 9 < a.toNat % 16 ∨ h = true then 6 else 0) +
    (if (8 < a.toNat / 16 ∧ 9 < a.toNat % 16) ∨ 9 < a.toNat / 16 ∨ c = true then 96 else 0) := by
  cases h <;> cases c <;> revert a <;> decide

/-- The adjusted byte and its carry, by the correction added in nine bits. -/
theorem daa8_sum (a : Byte) (cc : CC) :
    (daa8 a cc).1.toNat = (a.toNat + (daaCorrection a cc.h cc.c).toNat) % 256 ∧
    (daa8 a cc).2.c = (cc.c || decide (256 ≤ a.toNat + (daaCorrection a cc.h cc.c).toNat)) := by
  have hsum := sum9_toNat a (daaCorrection a cc.h cc.c) false
  rw [Bool.toNat_false, Nat.add_zero] at hsum
  have hzero : (BitVec.ofBool false).setWidth 9 = 0#9 := by decide
  rw [hzero, BitVec.add_zero] at hsum
  refine ⟨?_, congrArg (cc.c || ·) ?_⟩
  · simp only [daa8, BitVec.toNat_setWidth, hsum]
  · rw [BitVec.getLsbD, hsum, Nat.testBit_eq_decide_div_mod_eq]
    exact decide_eq_decide.mpr (by omega)

/-- Settles O51: the correction, added in nine bits. -/
theorem decimalAdjustResult : Obligations.DecimalAdjustResult := by
  intro s
  obtain ⟨hr, hc⟩ := daa8_sum s.cpu.a s.cpu.cc
  rw [daaCorrection_toNat, ← Nat.add_assoc] at hr hc
  exact ⟨_, rfl, hr, signZero8 _, rfl, hc, rfl, ⟨rfl, rfl, rfl⟩, State.acc_restored rfl .a _ _⟩

/-- The correction of R226 on the sums of two high and of two low decimal digits. -/
theorem decimal_digits (high low : Fin 19) :
    let sum := high.val * 16 + low.val
    let r := sum % 256
    let six := if 9 < r % 16 ∨ decide (16 ≤ low.val) = true then 6 else 0
    let sixty := if (8 < r / 16 ∧ 9 < r % 16) ∨ 9 < r / 16 ∨ decide (256 ≤ sum) = true then 96 else 0
    let u := (r + six + sixty) % 256
    u / 16 * 10 + u % 16 = (high.val * 10 + low.val) % 100 ∧ u % 16 ≤ 9 ∧
    (decide (256 ≤ sum) || decide (256 ≤ r + six + sixty)) = decide (100 ≤ high.val * 10 + low.val) := by
  revert high low
  decide

/-- Settles O52: by the nibbles of the two numbers. -/
theorem decimalAdditionOfTwoDigits : Obligations.DecimalAdditionOfTwoDigits := by
  intro x y s hx hx0 hx1 hy0 hy1
  obtain ⟨t, ht, hta, htc⟩ : ∃ t, exec (.adda (.imm y)) s = .next t ∧
      t.cpu.a = (add8 x y false s.cpu.cc).1 ∧ t.cpu.cc = (add8 x y false s.cpu.cc).2 :=
    ⟨_, rfl, by rw [← hx]; rfl, by rw [← hx]; rfl⟩
  obtain ⟨hr, -, hh, -, hc, -⟩ := add8_sum x y false s.cpu.cc
  rw [← hta] at hr
  rw [← htc] at hh hc
  obtain ⟨u, hu, hua, -, -, huc, -⟩ := decimalAdjustResult t
  have hdigits := decimal_digits ⟨x.toNat / 16 + y.toNat / 16, by omega⟩ ⟨x.toNat % 16 + y.toNat % 16, by omega⟩
  have hsum : (x.toNat / 16 + y.toNat / 16) * 16 + (x.toNat % 16 + y.toNat % 16) = x.toNat + y.toNat := by omega
  have hvalue : (x.toNat / 16 + y.toNat / 16) * 10 + (x.toNat % 16 + y.toNat % 16) =
      x.toNat / 16 * 10 + x.toNat % 16 + (y.toNat / 16 * 10 + y.toNat % 16) := by omega
  simp only [hsum, hvalue] at hdigits
  refine ⟨t, u, ht, hu, ?_⟩
  dsimp only
  rw [hua, huc, hr, hh, hc]
  exact hdigits

/-! ## Logic -/

theorem and8_bitwise (a m : Byte) (cc : CC) : BitwiseSpec and a m (and8 a m cc).1 cc (and8 a m cc).2 :=
  ⟨fun _ _ => BitVec.getLsbD_and, move8_flags _ cc⟩

theorem or8_bitwise (a m : Byte) (cc : CC) : BitwiseSpec or a m (or8 a m cc).1 cc (or8 a m cc).2 :=
  ⟨fun _ _ => BitVec.getLsbD_or, move8_flags _ cc⟩

theorem eor8_bitwise (a m : Byte) (cc : CC) : BitwiseSpec xor a m (eor8 a m cc).1 cc (eor8 a m cc).2 :=
  ⟨fun _ _ => BitVec.getLsbD_xor, move8_flags _ cc⟩

/-- An operation on an accumulator, whatever its specification. -/
theorem accOp_result {f : Byte → Byte → CC → Byte × CC} {spec : BinarySpec}
    (hf : ∀ a m c, spec a m (f a m c).1 c (f a m c).2) (r : Acc) (o : Src8) (s : State) :
    spec (s.acc r) (operand8 o s).1 ((accOp f r o s).acc r) s.cpu.cc (accOp f r o s).cpu.cc ∧
    ((accOp f r o s).setAcc r (s.acc r)).setCC s.cpu.cc = (operand8 o s).2 ∧ PlainCellsSame s (accOp f r o s) := by
  rw [accOp_acc, accOp_cc]
  exact ⟨hf _ _ _, accOp_restored f r o s, fun a ha => accOp_cell ha f r o s⟩

/-- Settles O53: three operations on two accumulators, and AND as a test. -/
theorem bitwiseAndBitTest : Obligations.BitwiseAndBitTest := by
  refine ⟨fun p hp o s => ?_, fun p hp o s => ?_⟩
  · simp only [List.mem_cons, List.not_mem_nil, or_false] at hp
    obtain rfl | rfl | rfl | rfl | rfl | rfl := hp
    · exact ⟨_, rfl, accOp_result and8_bitwise .a o s⟩
    · exact ⟨_, rfl, accOp_result and8_bitwise .b o s⟩
    · exact ⟨_, rfl, accOp_result or8_bitwise .a o s⟩
    · exact ⟨_, rfl, accOp_result or8_bitwise .b o s⟩
    · exact ⟨_, rfl, accOp_result eor8_bitwise .a o s⟩
    · exact ⟨_, rfl, accOp_result eor8_bitwise .b o s⟩
  · have hexec : exec (p.1 o) s = .next (accTest and8 p.2 o s) := by
      simp only [List.mem_cons, List.not_mem_nil, or_false] at hp
      obtain rfl | rfl := hp <;> rfl
    refine ⟨_, (and8 (s.acc p.2) (operand8 o s).1 s.cpu.cc).1, hexec, ?_, accTest_restored _ _ o s,
      fun a ha => accTest_cell ha _ _ o s⟩
    rw [accTest_cc]
    exact and8_bitwise ..

/-! ## Masks of CC -/

/-- The bits of the packed flags (10_state.md R14). -/
theorem packCC_bits (cc : CC) :
    (packCC cc).getLsbD 7 = cc.e ∧ (packCC cc).getLsbD 6 = cc.f ∧ (packCC cc).getLsbD 5 = cc.h ∧
    (packCC cc).getLsbD 4 = cc.i ∧ (packCC cc).getLsbD 3 = cc.n ∧ (packCC cc).getLsbD 2 = cc.z ∧
    (packCC cc).getLsbD 1 = cc.v ∧ (packCC cc).getLsbD 0 = cc.c :=
  CC.mk.inj (unpack_packCC cc)

/-- Settles O54: flag by flag. -/
theorem conditionCodeMasks : Obligations.ConditionCodeMasks := by
  intro m s
  obtain ⟨he, hf, hh, hi, hn, hz, hv, hc⟩ := packCC_bits s.cpu.cc
  refine ⟨?_, ?_⟩
  · rw [exec, execAndcc]
    simp only [unpackCC, BitVec.getLsbD_and, he, hf, hh, hi, hn, hz, hv, hc]
  · rw [exec, execOrcc]
    simp only [unpackCC, BitVec.getLsbD_or, he, hf, hh, hi, hn, hz, hv, hc]

end Sys2Proof.Machine
end

section
/-! SUPPORT. Branches, jumps, calls and returns (44_branch_jump.md). -/

namespace Sys2Proof.Machine

-- Proofs are checked one after the other: those that wait for an earlier one would each hold a thread.
set_option Elab.async false

/-! ## Branches -/

theorem State.setPC_own {s : State} {w : Word} (h : s.cpu.pc = w) : s.setPC w = s := by rw [← h]; rfl

/-- What a short and a long branch on a condition are to do. -/
def BranchResult (short : Byte → Instr) (long : Word → Instr) (taken : CC → Prop) : Prop :=
  ∀ s : State,
    (∀ off : Byte, ∃ t, exec (short off) s = .next t ∧ t.setPC s.cpu.pc = s ∧
      (taken s.cpu.cc → (t.cpu.pc.toNat : Int) = (s.cpu.pc.toNat + off.toInt) % 65536) ∧
      (¬ taken s.cpu.cc → t.cpu.pc = s.cpu.pc)) ∧
    (∀ off : Word, ∃ t, exec (long off) s = .next t ∧ t.setPC s.cpu.pc = s ∧
      (taken s.cpu.cc → (t.cpu.pc.toNat : Int) = (s.cpu.pc.toNat + off.toInt) % 65536) ∧
      (¬ taken s.cpu.cc → t.cpu.pc = s.cpu.pc))

/-- A branch moves PC by its offset or leaves it, and nothing else. -/
theorem branchIf_result (cond : Bool) (off : Word) (s : State) :
    (branchIf cond off s).setPC s.cpu.pc = s ∧
    (cond = true → ((branchIf cond off s).cpu.pc.toNat : Int) = (s.cpu.pc.toNat + off.toInt) % 65536) ∧
    (¬ cond = true → (branchIf cond off s).cpu.pc = s.cpu.pc) := by
  cases cond
  · exact ⟨rfl, nofun, fun _ => rfl⟩
  · exact ⟨rfl, fun _ => add_toInt _ off, fun h => absurd rfl h⟩

theorem branchResult_of {short : Byte → Instr} {long : Word → Instr} {taken : CC → Prop} (cond : CC → Bool)
    (hshort : ∀ off s, exec (short off) s = .next (branchIf (cond s.cpu.cc) (sext8 off) s))
    (hlong : ∀ off s, exec (long off) s = .next (branchIf (cond s.cpu.cc) off s))
    (htaken : ∀ c, cond c = true ↔ taken c) : BranchResult short long taken := by
  intro s
  rw [← htaken]
  refine ⟨fun off => ⟨_, hshort off s, ?_⟩, fun off => ⟨_, hlong off s, branchIf_result _ off s⟩⟩
  rw [← sext8_toInt]
  exact branchIf_result _ (sext8 off) s

/-- Settles O55: each row is a branch on its condition. -/
theorem branchesByCondition : Obligations.BranchesByCondition := by
  change ∀ p : (Byte → Instr) × (Word → Instr) × (CC → Prop), p ∈ _ → BranchResult p.1 p.2.1 p.2.2
  simp only [List.forall_mem_cons, List.not_mem_nil, false_imp_iff, implies_true, and_true]
  exact ⟨branchResult_of (fun _ => true) (fun _ _ => rfl) (fun _ _ => rfl) (by simp),
    branchResult_of (fun _ => false) (fun _ _ => rfl) (fun _ _ => rfl) (by simp),
    branchResult_of condHI (fun _ _ => rfl) (fun _ _ => rfl) (by simp [condHI]),
    branchResult_of condLS (fun _ _ => rfl) (fun _ _ => rfl) (by simp [condLS]),
    branchResult_of condCC (fun _ _ => rfl) (fun _ _ => rfl) (by simp [condCC]),
    branchResult_of condCS (fun _ _ => rfl) (fun _ _ => rfl) (by simp [condCS]),
    branchResult_of condNE (fun _ _ => rfl) (fun _ _ => rfl) (by simp [condNE]),
    branchResult_of condEQ (fun _ _ => rfl) (fun _ _ => rfl) (by simp [condEQ]),
    branchResult_of condVC (fun _ _ => rfl) (fun _ _ => rfl) (by simp [condVC]),
    branchResult_of condVS (fun _ _ => rfl) (fun _ _ => rfl) (by simp [condVS]),
    branchResult_of condPL (fun _ _ => rfl) (fun _ _ => rfl) (by simp [condPL]),
    branchResult_of condMI (fun _ _ => rfl) (fun _ _ => rfl) (by simp [condMI]),
    branchResult_of condGE (fun _ _ => rfl) (fun _ _ => rfl) (by simp [condGE]),
    branchResult_of condLT (fun _ _ => rfl) (fun _ _ => rfl) (by simp [condLT]),
    branchResult_of condGT (fun _ _ => rfl) (fun _ _ => rfl) (by simp [condGT]),
    branchResult_of condLE (fun _ _ => rfl) (fun _ _ => rfl) (by simp [condLE])⟩

/-! ## Branches after a compare -/

/-- What the flags of a compare tell: lower, equal, less (44_branch_jump.md R281). -/
def ComparedFlags (a m : Byte) (cc : CC) : Prop :=
  cc.c = decide (a.toNat < m.toNat) ∧ cc.z = decide (a.toNat = m.toNat) ∧
  (cc.n != cc.v) = decide (a.toInt < m.toInt)

theorem comparedFlags_of_difference {a m r : Byte} {c d : CC} (h : DifferenceSpec 0 a m r c d) :
    ComparedFlags a m d := by
  obtain ⟨hr, ⟨hn, hz⟩, hv, hc, -⟩ := h
  have ha := byte_toInt a
  have hm := byte_toInt m
  have hri := byte_toInt r
  refine ⟨hc, hz.trans (decide_eq_decide.mpr (by omega)), ?_⟩
  rw [hn, hv]
  exact (xor_decide _ _).trans (decide_eq_decide.mpr (by omega))

/-- CMPA of a byte leaves PC and these flags. -/
theorem cmpa_imm (m : Byte) (s : State) : ∃ t, exec (.cmpa (.imm m)) s = .next t ∧
    t.cpu.pc = s.cpu.pc ∧ ComparedFlags s.cpu.a m t.cpu.cc :=
  ⟨_, rfl, rfl, comparedFlags_of_difference (sub8_difference _ _ _ false _)⟩

/-- What a short branch after `CMPA m` is to tell. -/
def BranchTells (i : Byte → Instr) (rel : Byte → Byte → Prop) : Prop :=
  ∀ (m off : Byte) (s : State), off ≠ 0 →
    ∃ t u, exec (.cmpa (.imm m)) s = .next t ∧ exec (i off) t = .next u ∧ (u.cpu.pc ≠ s.cpu.pc ↔ rel s.cpu.a m)

/-- With an offset other than 0, PC tells whether the branch was taken. -/
theorem branchIf_pc_ne {off : Byte} (hoff : off ≠ 0) (cond : Bool) (s : State) :
    (branchIf cond (sext8 off) s).cpu.pc ≠ s.cpu.pc ↔ cond = true := by
  have hne : sext8 off ≠ 0 := by
    revert off
    decide
  cases cond
  · simp [branchIf]
  · simpa [branchIf] using hne

theorem branchTells_of {i : Byte → Instr} {rel : Byte → Byte → Prop} (cond : CC → Bool)
    (hexec : ∀ off s, exec (i off) s = .next (branchIf (cond s.cpu.cc) (sext8 off) s))
    (hrel : ∀ a m cc, ComparedFlags a m cc → (cond cc = true ↔ rel a m)) : BranchTells i rel := by
  intro m off s hoff
  obtain ⟨t, ht, hpc, hflags⟩ := cmpa_imm m s
  refine ⟨t, _, ht, hexec off t, ?_⟩
  rw [← hpc, branchIf_pc_ne hoff]
  exact hrel _ _ _ hflags

/-- The conditions of a signed comparison, by LT and Z. -/
theorem signed_conds (cc : CC) :
    condGE cc = !condLT cc ∧ condGT cc = (!cc.z && !condLT cc) ∧ condLE cc = (cc.z || condLT cc) := by
  simp [condGE, condLT, condGT, condLE, bne]

/-- The unsigned conditions after a compare. -/
theorem unsigned_compared {a m : Byte} {cc : CC} (h : ComparedFlags a m cc) :
    (condHI cc = true ↔ m.toNat < a.toNat) ∧ (condLS cc = true ↔ a.toNat ≤ m.toNat) ∧
    (condCC cc = true ↔ m.toNat ≤ a.toNat) ∧ (condCS cc = true ↔ a.toNat < m.toNat) ∧
    (condNE cc = true ↔ a ≠ m) ∧ (condEQ cc = true ↔ a = m) := by
  obtain ⟨hc, hz, -⟩ := h
  simp only [condHI, condLS, condCC, condCS, condNE, condEQ, hc, hz, ← BitVec.toNat_inj, ne_eq, Bool.not_eq_true',
    Bool.or_eq_true, Bool.or_eq_false_iff, decide_eq_true_eq, decide_eq_false_iff_not, iff_self, and_true]
  omega

/-- The signed conditions after a compare. -/
theorem signed_compared {a m : Byte} {cc : CC} (h : ComparedFlags a m cc) :
    (condGE cc = true ↔ m.toInt ≤ a.toInt) ∧ (condLT cc = true ↔ a.toInt < m.toInt) ∧
    (condGT cc = true ↔ m.toInt < a.toInt) ∧ (condLE cc = true ↔ a.toInt ≤ m.toInt) := by
  obtain ⟨-, hz, hless⟩ := h
  obtain ⟨hge, hgt, hle⟩ := signed_conds cc
  have hlt : condLT cc = decide (a.toInt < m.toInt) := hless
  have ha := byte_toInt a
  have hm := byte_toInt m
  simp only [hge, hgt, hle, hlt, hz, Bool.not_eq_true', Bool.and_eq_true, Bool.or_eq_true, decide_eq_true_eq,
    decide_eq_false_iff_not, iff_self, true_and]
  omega

/-- Settles O56: each row is a branch on a condition, and the condition a comparison. -/
theorem branchesAfterCompare : Obligations.BranchesAfterCompare := by
  change ∀ p : (Byte → Instr) × (Byte → Byte → Prop), p ∈ _ → BranchTells p.1 p.2
  simp only [List.forall_mem_cons, List.not_mem_nil, false_imp_iff, implies_true, and_true]
  refine ⟨branchTells_of condHI (fun _ _ => rfl) fun a m cc h => ?_,
    branchTells_of condLS (fun _ _ => rfl) fun a m cc h => ?_,
    branchTells_of condCC (fun _ _ => rfl) fun a m cc h => ?_,
    branchTells_of condCS (fun _ _ => rfl) fun a m cc h => ?_,
    branchTells_of condNE (fun _ _ => rfl) fun a m cc h => ?_,
    branchTells_of condEQ (fun _ _ => rfl) fun a m cc h => ?_,
    branchTells_of condGE (fun _ _ => rfl) fun a m cc h => ?_,
    branchTells_of condLT (fun _ _ => rfl) fun a m cc h => ?_,
    branchTells_of condGT (fun _ _ => rfl) fun a m cc h => ?_,
    branchTells_of condLE (fun _ _ => rfl) fun a m cc h => ?_⟩
  all_goals
    obtain ⟨hHI, hLS, hCC, hCS, hNE, hEQ⟩ := unsigned_compared h
    obtain ⟨hGE, hLT, hGT, hLE⟩ := signed_compared h
    assumption

/-! ## Jumps, calls, returns -/

theorem ea_pc (m : Mem) (s : State) : (ea m s).2.cpu.pc = s.cpu.pc := (ea_regs m s).2.2.2.2

/-- Settles O57. -/
theorem jumpAndNoOperation : Obligations.JumpAndNoOperation :=
  ⟨fun m s => ⟨_, rfl, rfl, State.setPC_own (ea_pc m s), fun _ ha => ea_cell ha m s⟩, fun _ => rfl⟩

/-- A call pushes the address of the next instruction (44_branch_jump.md R315..R317). -/
theorem callTo_eq (target : Word) (q : State) :
    callTo target q = (pushBytes .system [hi q.cpu.pc, lo q.cpu.pc] q).setPC target := by
  rw [callTo, push16_eq]

theorem callTo_cpu (target : Word) (q : State) :
    (callTo target q).cpu = { q.cpu with pc := target, s := q.cpu.s - 2 } := by
  rw [callTo_eq, State.setPC_cpu, pushBytes_cpu]
  rfl

theorem callTo_ramHolds {q : State} (hw : q.mem.wf = true) (target : Word) :
    RamHolds (callTo target q) (q.cpu.s - 2) [hi q.cpu.pc, lo q.cpu.pc] := by
  intro j b hj hram
  rw [callTo_eq, State.cell_setPC]
  exact pushBytes_ramHolds (k := .system) (s := q) hw (by simp) j b hj hram

theorem callTo_cells (target : Word) (q : State) :
    PlainCellsSameBut (Within (q.cpu.s - 2) 2) q (callTo target q) := by
  intro a ha hout
  rw [callTo_eq, State.cell_setPC]
  exact pushBytes_cell (k := .system) (bs := [hi q.cpu.pc, lo q.cpu.pc]) ha hout

/-- A target given as a number. -/
theorem target_eq {pc off target : Word} {n : Int} (hn : off.toInt = n)
    (h : (target.toNat : Int) = (pc.toNat + n) % 65536) : target = pc + off := by
  rw [← BitVec.toNat_inj]
  have := add_toInt pc off
  omega

/-- Settles O58: all three are `callTo`. -/
theorem callResult : Obligations.CallResult := by
  intro i target s q hi
  have hcall : exec i s = .next (callTo target q) ∧ q.cpu.pc = s.cpu.pc ∧ q.dbg = s.dbg ∧
      (s.mem.wf = true → q.mem.wf = true) ∧ PlainCellsSame s q := by
    obtain ⟨m, rfl, rfl, rfl⟩ | ⟨off, rfl, htarget, rfl⟩ | ⟨off, rfl, htarget, rfl⟩ := hi
    · exact ⟨rfl, ea_pc m s, ea_dbg m s, fun hw => ea_wf hw m, fun a ha => ea_cell ha m s⟩
    · rw [target_eq (sext8_toInt off) htarget]
      exact ⟨rfl, rfl, rfl, id, fun _ _ => rfl⟩
    · rw [target_eq rfl htarget]
      exact ⟨rfl, rfl, rfl, id, fun _ _ => rfl⟩
  obtain ⟨hexec, hpc, hdbg, hwf, hcells⟩ := hcall
  refine ⟨_, hexec, callTo_cpu target q, ?_, ?_, fun hw => ?_,
    fun a ha hout => (callTo_cells target q a ha hout).trans (hcells a ha)⟩
  · rw [callTo_eq, State.setPC_ctl, pushBytes_ctl]
  · rw [callTo_eq, State.setPC_dbg, pushBytes_dbg, hdbg]
  · rw [← hpc]
    exact callTo_ramHolds (hwf hw) target

/-- Settles O59: RTS is `pullPC`; the word it pulls is the one a call pushed. -/
theorem returnFromSubroutine : Obligations.ReturnFromSubroutine := by
  refine ⟨fun s => ⟨_, rfl, ?_, ?_, fun a ha => pullPC_cell ha _ s⟩, fun s hplain => ?_,
    fun off s t hw hhi hlo ht => ?_⟩
  · rw [pullPC, State.setPC_cpu, pull16_cpu]
    rfl
  · have hpc : (pull16 .system s).2.cpu.pc = s.cpu.pc := by
      rw [pull16_cpu, State.setSP_system, State.setS_cpu]
    rw [pullPC, setPC_setPC, State.setPC_own hpc]
  · have h0 : isIo s.cpu.s = false := by simpa using hplain 0 (by decide)
    exact (congrArg Host.Outcome.next (pullPC_plain h0 (hplain 1 (by decide))) :)
  · cases ht
    have hcpu := callTo_cpu (s.cpu.pc + sext8 off) s
    have hholds := callTo_ramHolds hw (s.cpu.pc + sext8 off)
    generalize callTo (s.cpu.pc + sext8 off) s = t at hcpu hholds
    have hnext : s.cpu.s - 2 + 1 = s.cpu.s - 1 := by bv_omega
    have hs : t.cpu.s = s.cpu.s - 2 := by rw [hcpu]
    have hram (j : Nat) (hj : j < 2) : cellKind (s.cpu.s - 2 + BitVec.ofNat 16 j) = .ram := by
      obtain rfl | rfl : j = 0 ∨ j = 1 := by omega
      · simpa using hhi
      · exact hnext ▸ hlo
    have hword : t.word t.cpu.s = s.cpu.pc := by
      rw [hs]
      simpa using hholds.word hram (j := 0) (w := s.cpu.pc) rfl rfl
    have hback : s.cpu.s - 2 + 2 = s.cpu.s := by bv_omega
    refine ⟨_, congrArg Host.Outcome.next (pullPC_plain ?_ ?_), ?_⟩
    · rw [hs]
      exact isIo_ram hhi
    · rw [hs, hnext]
      exact isIo_ram hlo
    · rw [hword, hs, hback, State.setPC_cpu, State.setS_cpu, hcpu]

end Sys2Proof.Machine
end
